-- ==== Sys2Proof/Word.lean ====
section
/-! DEFINITION. The word types of the PB62 and their plainest arithmetic: bytes and the two- and four-byte fields of its
records (11 R178), the saturating additions of its counters, and a timer counted in ticks (01 R9). -/

namespace Sys2Proof

/-- One byte of a record (R178). -/
abbrev Byte := BitVec 8

/-- A two-byte field: a tag, a speed, a force, an event detail, a counter. -/
abbrev Half := BitVec 16

/-- A four-byte field: the pulse position, a stamp, the time base. -/
abbrev Word := BitVec 32

/-- Add to a 16-bit counter that saturates at 65535 and never wraps (R53, R88). -/
def satAdd (a : Half) (n : Nat) : Half := BitVec.ofNat 16 (min 65535 (a.toNat + n))

/-- Add one to the overflow count, which saturates at 255 (R173). -/
def satInc (a : Byte) : Byte := BitVec.ofNat 8 (min 255 (a.toNat + 1))

/-- A number given as a 16-bit event detail, 65535 where it exceeds that (R183). -/
def sat16 (n : Nat) : Half := BitVec.ofNat 16 (min 65535 n)

/-- A timer measured on the time base (R9): stopped, or running with the ticks left until it expires; at 0 it is at its
end and has expired. -/
abbrev Timer := Option Nat

/-- One tick of the time base: a running timer comes one tick nearer its end, a stopped one stays stopped (R9). -/
def Timer.tick (t : Timer) : Timer := t.map (· - 1)

/-- A timer that runs and is at its end. A stopped timer does not expire (R124). -/
def Timer.expired (t : Timer) : Bool := t == some 0

/-- A running timer started again at its full length; a stopped one stays stopped (R91, R93). -/
def Timer.restart (t : Timer) (len : Nat) : Timer := t.map fun _ => len

end Sys2Proof
end

