-- ==== Sys2Proof/Syntax.lean ====
section
/-! DEFINITION. The syntax of the block: the records that cross its connections, and `Instr`, one constructor for each row of
spec/opcode_table.json. A command's operands are what the outside gives with it: the argument bytes of a host command (R168),
the fields of a good telegram (R31, Table 11.2), the bytes of a stand link record (R180), the slots for which the line
stays idle (R38), the encoder channel that changed (R86), the pins a reset reads (R14, R102). -/

namespace Sys2Proof.Machine

/-- A pass entry (R2, Table 1.2). An optional field that is absent is 0. -/
structure PassEntry where
  exitThickness : Half
  forwardSlip : Byte
  speedRef : Half
  expectedForce : Half
  tensionRef : Half
  deriving DecidableEq, Repr

/-- A piece record (R1, Table 1.1). Its pass count is the length of its pass list: a record whose length disagrees with the
count it carries never gets this far (R47, R168). -/
structure PieceRecord where
  tag : Half
  barThickness : Half
  passes : List PassEntry
  deriving DecidableEq, Repr

/-- The payload of an ANNOUNCE telegram (R20, R25, Table 11.2): the fields as they are carried. -/
structure Announce where
  linking : Bool
  trainId : Half
  trainSize : BitVec 4
  exitPresent : Bool
  reportPeriod : Byte
  lUp : Half
  lDn : Half
  heard : BitVec 10
  deriving DecidableEq, Repr

/-- The nine kinds of telegram with their payloads (Table 3.1, Table 11.2). The anonymous flag of a HEAD_BITE and of a TAIL_OUT,
the fault code of a HANDOFF_FAULT and the level and cause of a TRAIN_STOP are carried as they stand in the payload. -/
inductive Telegram where
  | announce (a : Announce)
  | pieceEntry (r : PieceRecord)
  | pieceWithdraw (tag : Half)
  | headBite (tag : Half) (anonymous : Bool) (speed : Half)
  | tailOut (tag : Half) (anonymous : Bool)
  | speedReport (tag : Half) (speed : Half)
  | handoffFault (tag : Half) (code : Byte)
  | trainStop (level cause : Byte)
  | trainResume
  deriving DecidableEq, Repr

/-- The four classes of telegram, named after their transmit queues (R32). -/
inductive TxClass where
  | stop | event | report | link
  deriving DecidableEq, Repr

/-- Why a reception fails (R46). -/
inductive ReceptionFailure where
  | sync | stopBit | cutShort | overrun | check
  deriving DecidableEq, Repr

/-- Why a frame that is intact is malformed (R47). -/
inductive Malformation where
  | kind | source | length | lengthField
  deriving DecidableEq, Repr

/-- The two encoder channels (R86). -/
inductive Channel where
  | a | b
  deriving DecidableEq, Repr

end Sys2Proof.Machine

namespace Sys2Proof

open Machine

/-- The commands of the block, one constructor per row of spec/opcode_table.json, in its order. `args` is the list of argument
bytes of a host command (its length is the argument length the host sent), `src` a source position 0..9, `seq` a telegram's
sequence number. -/
inductive Instr where
  /-- RESET (R29), with the strap pins and the encoder channels as it reads them (R14, R102). -/
  | reset (strap : BitVec 4) (encA encB : Bool)
  | configWrite (args : List Byte)
  | start (args : List Byte)
  | statusRead (args : List Byte)
  | eventRead (args : List Byte)
  | eventRecordClockedOut
  | faultClear (args : List Byte)
  | countersRead (args : List Byte)
  | pieceAnnounce (args : List Byte)
  | pieceWithdraw (args : List Byte)
  | trackRead (args : List Byte)
  | trackFind (args : List Byte)
  | trackInsert (args : List Byte)
  | trackRemove (args : List Byte)
  | looperRelease (args : List Byte)
  | trainStop (args : List Byte)
  | trainResume (args : List Byte)
  | busRelink (args : List Byte)
  | softReset (args : List Byte)
  | unknownCommand (code : Byte) (args : List Byte)
  /-- SPI_TRANSACTION_ABORTED (R168), with the bytes received before the transaction ended. -/
  | spiTransactionAborted (received : List Byte)
  | announceReceived (src : Fin 10) (seq : Byte) (a : Announce)
  | pieceEntryReceived (src : Fin 10) (seq : Byte) (r : PieceRecord)
  | pieceWithdrawReceived (src : Fin 10) (seq : Byte) (tag : Half)
  | headBiteReceived (src : Fin 10) (seq : Byte) (tag : Half) (anonymous : Bool) (speed : Half)
  | tailOutReceived (src : Fin 10) (seq : Byte) (tag : Half) (anonymous : Bool)
  | speedReportReceived (src : Fin 10) (seq : Byte) (tag speed : Half)
  | handoffFaultReceived (src : Fin 10) (seq : Byte) (tag : Half) (code : Byte)
  | trainStopReceived (src : Fin 10) (seq : Byte) (level cause : Byte)
  | trainResumeReceived (src : Fin 10) (seq : Byte)
  | rxFailedReception (why : ReceptionFailure)
  | rxMalformed (why : Malformation)
  /-- ATTEMPT_BEGIN (R38): the line is idle for `slots` more slots, unless an attempt begins before (log 4). -/
  | attemptBegin (slots : Nat)
  | attemptSuccess
  | attemptFail
  | announceTimerExpiry
  | linkTimeout
  | encoderPulse (channel : Channel)
  /-- SAMPLE_RECORD (R87, R180): the bytes on SLINK_IN up to the idle of the link, the start byte the first of them. -/
  | sampleRecord (bytes : List Byte)
  | sampleLoss
  | encoderFault
  | pieceAged
  | liftTimeout
  | settleTimerExpiry
  | lowerTimeout
  | holdOffExpiry
  | reportAgeExpiry
  | reportPeriodExpiry
  | bothChannelsChange
  deriving DecidableEq, Repr

end Sys2Proof
end

