-- ==== Sys2Proof/Decode.lean ====
section
/-! DEFINITION. The command a table word spells. No row of spec/opcode_table.json gives bits, so no word spells a command. (Raw bus
frames and raw SPI transactions are read into commands by Machine/Wire.lean.) -/

namespace Sys2Proof

/-- No row of the table gives bits: whatever the word, it spells no command. -/
def decodeTableWord (nbits w : Nat) : Option Instr :=
  match nbits, w with
  | _, _ => none

end Sys2Proof
end

