-- ==== Sys2Proof/Config.lean ====
section
/-! DEFINITION. What the spec leaves open: the free values. The configuration record of the station is state (R16), not this. -/

namespace Sys2Proof

/-- The free 16-bit values (log 7): the n-th value the spec does not state. It has no body, so nothing is known of it. Used for
the detail of ENCODER_RESUMED when no pulse came before the stall (R94), and for a field of the latest sample read where no
sample was ever taken (R136, R157). -/
opaque Config.freeValue : Nat → Half

end Sys2Proof
end

