-- ==== Sys2Proof/Machine/State.lean ====
section
/-! DEFINITION. The state of a PB62 station, block by block as Table 0.3 lists them, as plain data; the values after reset; and the
reasons a step can stop. -/

namespace Sys2Proof.Machine

/-! ### The station controller (Chapters 2 and 9) -/

/-- The five station states (Table 2.5), in the order of their codes (R178). -/
inductive StationState where
  | configuring | linking | running | stopped | faulted
  deriving DecidableEq, Repr

/-- The roles of Table 0.2 and R14; `invalid` is POSITION_INVALID. -/
inductive Role where
  | entry | stand | exit | invalid
  deriving DecidableEq, Repr

/-- The causes of FAULTED (R28). -/
inductive FaultCause where
  | trainMismatch | distanceMismatch | duplicatePosition
  deriving DecidableEq, Repr

/-- Whether a required neighbour stands upstream or downstream (R15). -/
inductive Relation where
  | upstream | downstream
  deriving DecidableEq, Repr

/-- The three acquisition states of a neighbour (Section 2.5). -/
inductive AcqState where
  | seek | matched | acked
  deriving DecidableEq, Repr

/-- One line of the neighbour acquisition table (R19). -/
structure AcqLine where
  position : Fin 10
  relation : Relation
  state : AcqState
  agreements : Nat
  deriving DecidableEq, Repr

/-- The configuration record: the 36 fields of Table 2.3 in order of index, each as wide as R181 sends it. -/
structure ConfigRecord where
  trainId : Half
  trainSize : Byte
  exitPresent : Byte
  reportPeriod : Byte
  announcePeriod : Byte
  linkTimeout : Byte
  mode : Byte
  lUp : Half
  lDn : Half
  upp : Word
  fOn : Half
  fOff : Half
  nOn : Half
  nOff : Half
  forceTolerance : Half
  windowTolerance : Byte
  armLead : Half
  tailLead : Half
  workingAngle : Half
  parkAngle : Half
  liftTime : Half
  settleTime : Half
  lowerTime : Half
  holdOff : Half
  tensionBand : Half
  tensionLimit : Half
  trimLimit : Byte
  trimStep : Byte
  sampleTimeout : Byte
  encoderStall : Byte
  ageLimit : Half
  stopThreshold : Byte
  autoStopHeadLost : Byte
  autoStopLooper : Byte
  irqThreshold : Byte
  faultEnables : Half
  deriving DecidableEq, Repr

/-- The station controller (Table 2.7). The lines hold the required-neighbour set as well (R19). -/
structure Station where
  state : StationState
  position : BitVec 4
  config : Option ConfigRecord
  lines : List AcqLine
  announceTimer : Timer
  linkTimer : Timer
  fault : Option (FaultCause × Fin 10)
  deriving DecidableEq, Repr

/-! ### The train bus unit (Chapter 3) -/

/-- A telegram in a transmit queue, with its count of failed attempts (R41) and its sequence number once its first attempt has
begun (R37). -/
structure Queued where
  telegram : Telegram
  failed : Nat
  seq : Option Byte
  deriving DecidableEq, Repr

/-- The attempt on the line: the telegram, its number, its class, and whether it is still the head of its queue (R42). -/
structure Attempt where
  telegram : Telegram
  seq : Byte
  cls : TxClass
  queued : Bool
  deriving DecidableEq, Repr

/-- The line as this station has it: idle, with the slot count (R38); busy, where no idle period is counted, because none has been
recognised since the reset (R54), since an attempt began or since one was cut off (R42); or in the rest of the frame in which its attempt
failed, which is lost to it (R41). -/
inductive LineState where
  | idle (count : Fin 44)
  | busy | lost
  deriving DecidableEq, Repr

/-- The bus state (R43, R44). -/
inductive BusState where
  | active | silent
  deriving DecidableEq, Repr

/-- The eight bus counters (Table 3.9). -/
structure Counters where
  rxGood : Half
  rxCrc : Half
  rxMalformed : Half
  rxRepeat : Half
  seqGaps : Half
  txGood : Half
  txFail : Half
  txDrop : Half
  deriving DecidableEq, Repr

/-- The train bus unit (Table 3.10). -/
structure Bus where
  stopQueue : List Queued
  eventQueue : List Queued
  reportQueue : List Queued
  linkQueue : List Queued
  attempt : Option Attempt
  line : LineState
  state : BusState
  failures : Nat
  good : Nat
  ownSeq : Byte
  expect : Vector (Option Byte) 10
  counters : Counters
  deriving DecidableEq, Repr

/-! ### The tracking engine and the travel unit's indications (Chapters 4 and 6) -/

/-- How an entry came to be (R56). -/
inductive Origin where
  | bus | manual | anonymous
  deriving DecidableEq, Repr

/-- The five phases, in order (R56). -/
inductive Phase where
  | announced | approaching | inStand | tailApproaching | cleared
  deriving DecidableEq, Repr

/-- The downstream status (Section 4.7), in the order of Table 4.1: NONE, PENDING, OPEN, UNTIMED, UNCONFIRMED, CONFIRMED, LOST. -/
inductive Downstream where
  | noHead | pending | inWindow | untimed | unconfirmed | confirmed | lost
  deriving DecidableEq, Repr

/-- The verification of an entry's bite (R71). -/
inductive Verification where
  | unchecked | verified | suspect
  deriving DecidableEq, Repr

/-- The six flags of an entry (Table 4.2). -/
structure EntryFlags where
  tailSeen : Bool
  downstreamGap : Bool
  tagMismatch : Bool
  lateLift : Bool
  unsupervised : Bool
  trimFaultHeld : Bool
  deriving DecidableEq, Repr

/-- The pass window (R6): up to three pass entries. -/
structure PassWindow where
  up : Option PassEntry
  own : Option PassEntry
  down : Option PassEntry
  deriving DecidableEq, Repr

/-- The head marks, in pulses from the bite stamp (R107), with the reached indications of the arm point, of window low and of the
expiry point (R103, R112). -/
structure HeadMarks where
  armPoint : Nat
  windowLow : Nat
  windowHigh : Nat
  armReached : Bool
  lowReached : Bool
  expiryReached : Bool
  deriving DecidableEq, Repr

/-- The tail marks, in pulses from the tail stamp (R109, R110), with the reached indications of the lowering point and of the
overdue point. -/
structure TailMarks where
  lowering : Nat
  tailLow : Nat
  tailHigh : Nat
  loweringReached : Bool
  overdueReached : Bool
  deriving DecidableEq, Repr

/-- The tail stamp with its void indication (R121). -/
structure TailStamp where
  position : Word
  void : Bool
  deriving DecidableEq, Repr

/-- A tracking entry (Table 4.1). -/
structure Entry where
  tag : Half
  origin : Origin
  phase : Phase
  barThickness : Option Half
  window : Option PassWindow
  downstream : Downstream
  verification : Verification
  flags : EntryFlags
  biteStamp : Option Word
  headMarks : Option HeadMarks
  tailStamp : Option TailStamp
  tailMarks : Option TailMarks
  age : Nat
  deriving DecidableEq, Repr

/-! ### The stand interface and the load detector (Chapter 5) -/

/-- A sample (R87). -/
structure Sample where
  seq : Byte
  force : Half
  speed : Half
  angle : Half
  tension : Half
  detector : Bool
  deriving DecidableEq, Repr

/-- The looper commands, in the order of their codes (R178). -/
inductive LooperCommand where
  | park | arm | lift | regulate | lower
  deriving DecidableEq, Repr

/-- A command record (R90). -/
structure CommandRecord where
  seq : Byte
  looper : LooperCommand
  tension : Half
  trim : Int
  station : StationState
  deriving DecidableEq, Repr

/-- The stand interface (Table 5.2). `lastSeq` and `sinceSample` are the sequence number of the last sample taken since START and
the milliseconds since it, or since START (R91, R92); `sincePulse` the milliseconds since the last pulse (R94), each of the two
counts held at 65535 once it is there; `sent` is the last command record sent. -/
structure Stand where
  encA : Bool
  encB : Bool
  pulse : Word
  latest : Option Sample
  expect : Option Byte
  sampleTimer : Timer
  stallTimer : Timer
  sampleLoss : Bool
  encoderStall : Bool
  sampleGaps : Half
  sampleErrors : Half
  lastSeq : Option Byte
  sinceSample : Nat
  sincePulse : Option Nat
  sent : Option CommandRecord
  deriving DecidableEq, Repr

/-- The four detector states, the pending ones with their stamp and sample count (R96). -/
inductive DetectorState where
  | unloaded
  | onPending (stamp : Word) (count : Nat)
  | loaded
  | offPending (stamp : Word) (count : Nat)
  deriving DecidableEq, Repr

/-- The verification state: IDLE, or AWAITING with the first force, the band and the stamp of the bite (Section 5.6, R100). -/
inductive VerifyState where
  | idle
  | awaiting (first : Half) (low high : Nat) (stamp : Word)
  deriving DecidableEq, Repr

/-- The load detector (Table 5.2). -/
structure Detector where
  state : DetectorState
  verify : VerifyState
  deriving DecidableEq, Repr

/-! ### The looper sequencer (Chapter 7) -/

/-- The two phases of LIFTING (Table 7.1). -/
inductive LiftPhase where
  | rise | settle
  deriving DecidableEq, Repr

/-- The six looper states (Table 7.1). -/
inductive LooperState where
  | parked | armed
  | lifting (phase : LiftPhase)
  | regulating | lowering | holdOff
  deriving DecidableEq, Repr

/-- The looper sequencer (Table 7.3). -/
structure Looper where
  state : LooperState
  liftTimer : Timer
  settleTimer : Timer
  lowerTimer : Timer
  holdOffTimer : Timer
  integrator : Nat
  armPending : Bool
  liftPending : Bool
  served : Half
  deriving DecidableEq, Repr

/-! ### The trim calculator (Chapter 8) -/

/-- The four trim states (Table 8.1). -/
inductive TrimState where
  | off | tracking | held | rampOut
  deriving DecidableEq, Repr

/-- The trim calculator (Table 8.3). -/
structure Trim where
  state : TrimState
  target : Int
  current : Int
  ageTimer : Timer
  saturated : Bool
  reportTimer : Timer
  deriving DecidableEq, Repr

/-! ### The host port (Chapter 10) -/

/-- The event kinds in the order of Table 10.3. -/
inductive EventKind where
  | headLost | tensionFault | liftTimeout | lowerTimeout | sampleLoss | encoderFault | stopActed | stationFaulted | busSilent
  | ownBite | ownTailOut | handoffDone | lateLift | unsupervised | headEarly | headUnconfirmed | biteTooLate | tagMismatch
  | biteSuspect | trimSaturated | trimHeld | stopIgnored | resumed | resumeRefused | linked
  | pieceAdded | pieceRefused | pieceWithdrawn | pieceEvicted | pieceAged | pieceRetired | anonymousPiece | upstreamNotSeen
  | unexpectedFrame | tailEarly | tailOverdue
  | seqGap | txDrop | linkTimeout | neighbourRejoined | neighbourMismatch | sampleResumed | encoderResumed | busActive
  deriving DecidableEq, Repr

/-- An event (Section 10.5); its class is fixed by its kind. -/
structure Event where
  kind : EventKind
  tag : Half
  detail : Half
  stamp : Half
  deriving DecidableEq, Repr

/-- The status codes, in the order of Table 10.2. -/
inductive Status where
  | ok | notFound | full | duplicate | active | wrongState | wrongRole | badArgument | badLength
  deriving DecidableEq, Repr

/-- What a transaction returns on SPI_DO once its command is taken (R168). -/
structure Response where
  status : Status
  data : List Byte
  deriving DecidableEq, Repr

/-- The event record a transaction is clocking out (R174): none; the head of the queue; or an event that the overflow rule has
removed from the queue meanwhile. -/
inductive EventRead where
  | idle | head | displaced
  deriving DecidableEq, Repr

/-- The host port (Table 10.4). The latched flags stand in one byte, numbered as R181 numbers them. `response` is what the
transaction in progress, or the last one, returned; `softResetDue` a SOFT_RESET taken whose transaction has not ended (R29). -/
structure HostPort where
  events : List Event
  overflow : Byte
  latched : Byte
  reading : EventRead
  response : Option Response
  softResetDue : Bool
  deriving DecidableEq, Repr

/-! ### The station -/

/-- The state of the station. `pending` (the commands waiting, oldest first) and `freeCount` (the counter behind the free values,
log 7) are the model's own; `strap` is the level last seen on STRAP0..STRAP3. -/
structure State where
  strap : BitVec 4
  timeBase : Word
  station : Station
  bus : Bus
  table : List Entry
  stand : Stand
  detector : Detector
  looper : Looper
  trim : Trim
  host : HostPort
  freeCount : Nat
  pending : List Instr
  deriving DecidableEq, Repr

/-- Why the machine could stop with a fault. No rule of the spec stops the block, so nothing raises one: there is no reason. -/
inductive Fault where
  deriving DecidableEq, Repr

/-- Why a command could have no meaning. -/
inductive Refusal where
  /-- Raised by `exec`'s arm of a command that has no meaning yet. Safe: the machine stops where the hardware goes on. No arm
  raises it. -/
  | notModelled (mnemonic : String)
  deriving DecidableEq, Repr

/-! ### Reset -/

/-- The station controller after reset (Table 2.7), its position read from the strap pins (R14). -/
def Station.reset (strap : BitVec 4) : Station :=
  { state := .configuring, position := strap, config := none, lines := [], announceTimer := none, linkTimer := none,
    fault := none }

/-- The counters after reset or after COUNTERS_READ (R53). -/
def Counters.zero : Counters :=
  { rxGood := 0, rxCrc := 0, rxMalformed := 0, rxRepeat := 0, seqGaps := 0, txGood := 0, txFail := 0, txDrop := 0 }

/-- The train bus unit after reset (Table 3.10): no idle period is recognised yet, so no slots are counted. -/
def Bus.reset : Bus :=
  { stopQueue := [], eventQueue := [], reportQueue := [], linkQueue := [], attempt := none, line := .busy, state := .active,
    failures := 0, good := 0, ownSeq := 0, expect := Vector.replicate 10 none, counters := Counters.zero }

/-- The stand interface after reset (Table 5.2), its encoder state read from the pins; `lastSeq`, `sinceSample`, `sincePulse` and
`sent` are log 5's and log 6's. -/
def Stand.reset (encA encB : Bool) : Stand :=
  { encA := encA, encB := encB, pulse := 0, latest := none, expect := none, sampleTimer := none, stallTimer := none,
    sampleLoss := false, encoderStall := false, sampleGaps := 0, sampleErrors := 0, lastSeq := none, sinceSample := 0,
    sincePulse := none, sent := none }

/-- The load detector after reset (Table 5.2). -/
def Detector.reset : Detector := { state := .unloaded, verify := .idle }

/-- The looper sequencer after reset (Table 7.3). -/
def Looper.reset : Looper :=
  { state := .parked, liftTimer := none, settleTimer := none, lowerTimer := none, holdOffTimer := none, integrator := 0,
    armPending := false, liftPending := false, served := 0 }

/-- The trim calculator after reset (Table 8.3). -/
def Trim.reset : Trim :=
  { state := .off, target := 0, current := 0, ageTimer := none, saturated := false, reportTimer := none }

/-- The host port after reset (Table 10.4). -/
def HostPort.reset : HostPort :=
  { events := [], overflow := 0, latched := 0, reading := .idle, response := none, softResetDue := false }

/-- The station after a reset that reads these pins (R29): every block at its reset values, the time base at 0 (R9), the tracking
table empty (R85). -/
def State.atReset (strap : BitVec 4) (encA encB : Bool) : State :=
  { strap := strap, timeBase := 0, station := Station.reset strap, bus := Bus.reset, table := [], stand := Stand.reset encA encB,
    detector := Detector.reset, looper := Looper.reset, trim := Trim.reset, host := HostPort.reset, freeCount := 0, pending := [] }

/-- The machine right after power-on: the reset of R29 with every pin low (log 3). -/
def State.reset : State := State.atReset 0 false false

end Sys2Proof.Machine
end

