-- ==== Sys2Proof/Machine/Wire.lean ====
section
/-! DEFINITION. The record formats of Chapter 11: byte order, check, the codes of the enumerations, the telegram frame and its
payloads, the stand link records, the configuration record, the event record and the tracking entry record; and how the block
reads a raw bus frame (R46, R47) and a raw SPI transaction (R168) into a command. -/

namespace Sys2Proof.Machine

/-! ### Common encoding (R178) -/

/-- A two-byte field, most significant byte first. -/
def bytes16 (h : Half) : List Byte := [h.extractLsb' 8 8, h.extractLsb' 0 8]

/-- A four-byte field, most significant byte first. -/
def bytes32 (w : Word) : List Byte :=
  [w.extractLsb' 24 8, w.extractLsb' 16 8, w.extractLsb' 8 8, w.extractLsb' 0 8]

/-- The field two bytes carry. -/
def half (hi lo : Byte) : Half := hi ++ lo

/-- The field four bytes carry. -/
def word (b3 b2 b1 b0 : Byte) : Word := b3 ++ b2 ++ b1 ++ b0

/-- A number sent as one byte. -/
def byteOf (n : Nat) : Byte := BitVec.ofNat 8 n

/-- A truth value sent as one byte. -/
def flagByte (b : Bool) : Byte := if b then 1 else 0

/-- Eight truth values as the bits of a byte, the first in bit 0. -/
def bitsByte (bs : List Bool) : Byte := byteOf (bs.foldr (fun b n => 2 * n + b.toNat) 0)

/-- One bit entering the CRC-16 with generator x^16 + x^12 + x^5 + 1. -/
def crcBit (crc : Half) (b : Bool) : Half :=
  if crc.msb ^^ b then (crc <<< 1) ^^^ 0x1021 else crc <<< 1

/-- One byte entering the CRC, most significant bit first. -/
def crcByte (crc : Half) (b : Byte) : Half :=
  [7, 6, 5, 4, 3, 2, 1, 0].foldl (fun c i => crcBit c (b.getLsbD i)) crc

/-- The check over these bytes: initial value all ones, result not inverted (R178). -/
def crc16 (bs : List Byte) : Half := bs.foldl crcByte 0xFFFF

/-! ### Codes of the enumerations (R178, Table 11.5, R179) -/

def StationState.code : StationState → Byte
  | .configuring => 0 | .linking => 1 | .running => 2 | .stopped => 3 | .faulted => 4

def Role.code : Role → Byte
  | .entry => 0 | .stand => 1 | .exit => 2 | .invalid => 3

def FaultCause.code : FaultCause → Byte
  | .trainMismatch => 1 | .distanceMismatch => 2 | .duplicatePosition => 3

def AcqState.code : AcqState → Byte
  | .seek => 0 | .matched => 1 | .acked => 2

def BusState.code : BusState → Byte
  | .active => 0 | .silent => 1

def Origin.code : Origin → Byte
  | .bus => 0 | .manual => 1 | .anonymous => 2

def Phase.code : Phase → Byte
  | .announced => 0 | .approaching => 1 | .inStand => 2 | .tailApproaching => 3 | .cleared => 4

def Downstream.code : Downstream → Byte
  | .noHead => 0 | .pending => 1 | .inWindow => 2 | .untimed => 3 | .unconfirmed => 4 | .confirmed => 5 | .lost => 6

def Verification.code : Verification → Byte
  | .unchecked => 0 | .verified => 1 | .suspect => 2

def DetectorState.code : DetectorState → Byte
  | .unloaded => 0 | .onPending _ _ => 1 | .loaded => 2 | .offPending _ _ => 3

def VerifyState.code : VerifyState → Byte
  | .idle => 0 | .awaiting _ _ _ _ => 1

def LooperCommand.code : LooperCommand → Byte
  | .park => 0 | .arm => 1 | .lift => 2 | .regulate => 3 | .lower => 4

def LooperState.code : LooperState → Byte
  | .parked => 0 | .armed => 1 | .lifting _ => 2 | .regulating => 3 | .lowering => 4 | .holdOff => 5

/-- The looper phase: none 0, RISE 1, SETTLE 2 (Table 11.5). -/
def LooperState.phaseCode : LooperState → Byte
  | .lifting .rise => 1 | .lifting .settle => 2
  | .parked | .armed | .regulating | .lowering | .holdOff => 0

def TrimState.code : TrimState → Byte
  | .off => 0 | .tracking => 1 | .held => 2 | .rampOut => 3

def Status.code : Status → Byte
  | .ok => 0 | .notFound => 1 | .full => 2 | .duplicate => 3 | .active => 4 | .wrongState => 5 | .wrongRole => 6
  | .badArgument => 7 | .badLength => 8

/-- The number of an event kind: 1 to 44 in the order of Table 10.3; 0 is NONE (R182). -/
def EventKind.number (k : EventKind) : Nat := k.ctorIdx + 1

/-- The class of an event kind (Table 10.3, R182). -/
def EventKind.cls (k : EventKind) : Nat :=
  if k.number ≤ 9 then 0 else if k.number ≤ 25 then 1 else if k.number ≤ 36 then 2 else 3

/-! ### Telegrams (Table 3.1, R179) -/

/-- The code of a telegram's kind (Table 3.1). -/
def Telegram.kind : Telegram → BitVec 4
  | .announce _ => 1 | .pieceEntry _ => 2 | .pieceWithdraw _ => 3 | .headBite _ _ _ => 4 | .tailOut _ _ => 5
  | .speedReport _ _ => 6 | .handoffFault _ _ => 7 | .trainStop _ _ => 8 | .trainResume => 9

/-- The class of a telegram, and so its queue (Table 3.1). -/
def Telegram.cls : Telegram → TxClass
  | .trainStop _ _ | .trainResume => .stop
  | .pieceEntry _ | .pieceWithdraw _ | .headBite _ _ _ | .tailOut _ _ | .handoffFault _ _ => .event
  | .speedReport _ _ => .report
  | .announce _ => .link

/-- The number of a class (R32). -/
def TxClass.number : TxClass → Nat
  | .stop => 0 | .event => 1 | .report => 2 | .link => 3

/-- The telegram's tag, 0 for a kind that carries none (R35). -/
def Telegram.tag : Telegram → Half
  | .pieceEntry r => r.tag
  | .pieceWithdraw t | .headBite t _ _ | .tailOut t _ | .speedReport t _ | .handoffFault t _ => t
  | .announce _ | .trainStop _ _ | .trainResume => 0

/-- A pass entry as PIECE_ENTRY carries it (Table 11.2). -/
def PassEntry.bytes (p : PassEntry) : List Byte :=
  bytes16 p.exitThickness ++ [p.forwardSlip] ++ bytes16 p.speedRef ++ bytes16 p.expectedForce ++ bytes16 p.tensionRef

/-- A piece record: the PIECE_ENTRY payload and the arguments of PIECE_ANNOUNCE and TRACK_INSERT (R179, R181). -/
def PieceRecord.bytes (r : PieceRecord) : List Byte :=
  bytes16 r.tag ++ [byteOf r.passes.length] ++ bytes16 r.barThickness ++ r.passes.flatMap PassEntry.bytes

/-- The ANNOUNCE payload (Table 11.2). -/
def Announce.bytes (a : Announce) : List Byte :=
  [flagByte a.linking] ++ bytes16 a.trainId ++
    [(if a.exitPresent then (0x10 : Byte) else 0) ||| a.trainSize.setWidth 8, a.reportPeriod] ++
    bytes16 a.lUp ++ bytes16 a.lDn ++ bytes16 (a.heard.setWidth 16)

/-- The payload of a telegram (Table 11.2). -/
def Telegram.payload : Telegram → List Byte
  | .announce a => a.bytes
  | .pieceEntry r => r.bytes
  | .pieceWithdraw tag => bytes16 tag
  | .headBite tag anonymous speed => bytes16 tag ++ [flagByte anonymous] ++ bytes16 speed
  | .tailOut tag anonymous => bytes16 tag ++ [flagByte anonymous]
  | .speedReport tag speed => bytes16 tag ++ bytes16 speed
  | .handoffFault tag code => bytes16 tag ++ [code]
  | .trainStop level cause => [level, cause]
  | .trainResume => []

/-- The header of a telegram frame: kind and source, sequence, payload length (Table 11.1). -/
def Telegram.header (t : Telegram) (src : BitVec 4) (seq : Byte) : List Byte :=
  [(t.kind ++ src : BitVec 8), seq, byteOf t.payload.length]

/-- A telegram frame (R179): sync bytes, header, payload, and the check over header and payload. -/
def Telegram.frame (t : Telegram) (src : BitVec 4) (seq : Byte) : List Byte :=
  [0x5A, 0xC3] ++ t.header src seq ++ t.payload ++ bytes16 (crc16 (t.header src seq ++ t.payload))

/-- The pass entries that these bytes carry, nine bytes each. -/
def passesOfBytes : List Byte → List PassEntry
  | e1 :: e2 :: fs :: v1 :: v2 :: f1 :: f2 :: t1 :: t2 :: rest =>
    { exitThickness := half e1 e2, forwardSlip := fs, speedRef := half v1 v2, expectedForce := half f1 f2,
      tensionRef := half t1 t2 } :: passesOfBytes rest
  | _ => []

/-- The piece record that these bytes carry; none where their number disagrees with 5 + 9 × the pass count in them (R47, R168). -/
def pieceRecordOfBytes : List Byte → Option PieceRecord
  | t1 :: t2 :: c :: b1 :: b2 :: rest =>
    if rest.length = 9 * c.toNat then
      some { tag := half t1 t2, barThickness := half b1 b2, passes := passesOfBytes rest }
    else none
  | _ => none

/-- The telegram of a kind with this payload; none where the payload length is not that of the kind (R47). Bits that Table 11.2
does not define are ignored (R178). -/
def telegramOf (kind : Nat) (payload : List Byte) : Option Telegram :=
  match kind, payload with
  | 1, [f, t1, t2, ne, rp, u1, u2, d1, d2, h1, h2] =>
    some (.announce
      { linking := f.getLsbD 0, trainId := half t1 t2, trainSize := ne.setWidth 4, exitPresent := ne.getLsbD 4,
        reportPeriod := rp, lUp := half u1 u2, lDn := half d1 d2, heard := (half h1 h2).setWidth 10 })
  | 2, bs => (pieceRecordOfBytes bs).map .pieceEntry
  | 3, [t1, t2] => some (.pieceWithdraw (half t1 t2))
  | 4, [t1, t2, f, v1, v2] => some (.headBite (half t1 t2) (f.getLsbD 0) (half v1 v2))
  | 5, [t1, t2, f] => some (.tailOut (half t1 t2) (f.getLsbD 0))
  | 6, [t1, t2, v1, v2] => some (.speedReport (half t1 t2) (half v1 v2))
  | 7, [t1, t2, c] => some (.handoffFault (half t1 t2) c)
  | 8, [l, c] => some (.trainStop l c)
  | 9, [] => some .trainResume
  | _, _ => none

/-- The command that the reception of a good telegram is. -/
def Telegram.received (src : Fin 10) (seq : Byte) : Telegram → Instr
  | .announce a => .announceReceived src seq a
  | .pieceEntry r => .pieceEntryReceived src seq r
  | .pieceWithdraw tag => .pieceWithdrawReceived src seq tag
  | .headBite tag anonymous speed => .headBiteReceived src seq tag anonymous speed
  | .tailOut tag anonymous => .tailOutReceived src seq tag anonymous
  | .speedReport tag speed => .speedReportReceived src seq tag speed
  | .handoffFault tag code => .handoffFaultReceived src seq tag code
  | .trainStop level cause => .trainStopReceived src seq level cause
  | .trainResume => .trainResumeReceived src seq

/-- A byte as the bus receiver takes it: its eight data bits, and whether its stop bit was there (R30, R46). -/
structure RawByte where
  value : Byte
  stopBit : Bool
  deriving DecidableEq, Repr

/-- The ten bits of a byte on the train bus (R30) and on the stand link (R180): a start bit, the data bits least significant first, a stop
bit, which is the level of the line at rest. That the stand link has the bit order and the levels of the bus is DEDUCED (log 29). -/
def byteBits (b : Byte) : List Bool :=
  [false, b.getLsbD 0, b.getLsbD 1, b.getLsbD 2, b.getLsbD 3, b.getLsbD 4, b.getLsbD 5, b.getLsbD 6, b.getLsbD 7, true]

/-- The bits of a frame, its bytes back to back (R30). -/
def frameBits (frame : List Byte) : List Bool := frame.flatMap byteBits

/-- After how many bit-times at the stop level the line is idle, and the frame on it ended (R30). -/
def idleBits : Nat := 4

/-- The bytes of a frame as the receiver takes its bits from the line, `rest` bit-times at the stop level having passed since the last
stop bit (R30). -/
def bytesOfBits (rest : Nat) : List Bool → List RawByte
  | false :: b0 :: b1 :: b2 :: b3 :: b4 :: b5 :: b6 :: b7 :: stop :: line =>
    { value := bitsByte [b0, b1, b2, b3, b4, b5, b6, b7], stopBit := stop } :: bytesOfBits 0 line
  | true :: line => if rest + 1 < idleBits then bytesOfBits (rest + 1) line else []
  | _ => []

/-- An intact frame by its header and payload (R47): malformed in kind, in source or in length, or a good telegram. -/
def goodFrame (kindSource seq : Byte) (payload : List Byte) : Instr :=
  let kind := (kindSource >>> 4).toNat
  let src := (kindSource &&& 0x0F).toNat
  if kind = 0 ∨ 9 < kind then .rxMalformed .kind
  else if h : src < 10 then
    match telegramOf kind payload with
    | some t => t.received ⟨src, h⟩ seq
    | none => .rxMalformed .length
  else .rxMalformed .source

/-- The command that a frame on the line is (R46, R47): the bytes from the first start bit after an idle period to the next idle,
as the receiver takes them. -/
def receiveFrame : List RawByte → Instr
  | s1 :: s2 :: h1 :: h2 :: h3 :: rest =>
    let len := h3.value.toNat
    if ¬ [s1, s2, h1, h2, h3].all RawByte.stopBit then .rxFailedReception .stopBit
    else if s1.value ≠ 0x5A ∨ s2.value ≠ 0xC3 then .rxFailedReception .sync
    else if 96 < len then .rxMalformed .lengthField
    else if rest.length < len + 2 then .rxFailedReception .cutShort
    else if ¬ (rest.take (len + 2)).all RawByte.stopBit then .rxFailedReception .stopBit
    else if len + 2 < rest.length then .rxFailedReception .overrun
    else
      let body := rest.map RawByte.value
      let payload := body.take len
      if bytes16 (crc16 ([h1.value, h2.value, h3.value] ++ payload)) ≠ body.drop len then .rxFailedReception .check
      else goodFrame h1.value h2.value payload
  | _ => .rxFailedReception .cutShort

/-- A frame as a receiver takes it when every bit arrives as it was sent. -/
def undisturbed (frame : List Byte) : List RawByte := frame.map fun b => { value := b, stopBit := true }

/-! ### Stand link records (R180) -/

/-- The start byte of a sample record (Table 11.3). -/
def sampleStart : Byte := 0xA5

/-- The start byte of a command record (Table 11.3). -/
def commandStart : Byte := 0x96

/-- The sample that these bytes carry, from the start byte to the idle; none for another start byte, a wrong number of bytes or a check
that disagrees (R87). -/
def sampleOfBytes : List Byte → Option Sample
  | [start, q, f1, f2, v1, v2, a1, a2, t1, t2, fl, c1, c2] =>
    if start = sampleStart ∧ crc16 [q, f1, f2, v1, v2, a1, a2, t1, t2, fl] = half c1 c2 then
      some { seq := q, force := half f1 f2, speed := half v1 v2, angle := half a1 a2, tension := half t1 t2,
             detector := fl.getLsbD 0 }
    else none
  | _ => none

/-- The bytes of a sample record between start byte and check, as the drive sends them (Table 11.3). -/
def Sample.fields (x : Sample) : List Byte :=
  [x.seq] ++ bytes16 x.force ++ bytes16 x.speed ++ bytes16 x.angle ++ bytes16 x.tension ++ [flagByte x.detector]

/-- A sample record as it comes in on SLINK_IN (Table 11.3). -/
def Sample.bytes (x : Sample) : List Byte := [sampleStart] ++ x.fields ++ bytes16 (crc16 x.fields)

/-- The bytes of a command record between start byte and check. The trim is sent in two's complement (R178). -/
def CommandRecord.fields (r : CommandRecord) : List Byte :=
  [r.seq, r.looper.code] ++ bytes16 r.tension ++ bytes16 (BitVec.ofInt 16 r.trim) ++ [r.station.code]

/-- A command record as it goes out on SLINK_OUT (Table 11.3). -/
def CommandRecord.bytes (r : CommandRecord) : List Byte := [commandStart] ++ r.fields ++ bytes16 (crc16 r.fields)

/-- The bytes that the bits on SLINK_IN up to the idle of the link carry (R180): ten bit-times each, in between the line at the stop level.
The stop bit is not tested, since R87 names the check and the length alone (DEDUCED, log 29). -/
def linkBytes : List Bool → List Byte
  | false :: b0 :: b1 :: b2 :: b3 :: b4 :: b5 :: b6 :: b7 :: _ :: line => bitsByte [b0, b1, b2, b3, b4, b5, b6, b7] :: linkBytes line
  | true :: line => linkBytes line
  | _ => []

/-- The command that the bits on SLINK_IN up to the idle of the link are (R87, R180). -/
def receiveRecord (line : List Bool) : Instr := .sampleRecord (linkBytes line)

/-- The bits of a command record on SLINK_OUT (R180). -/
def CommandRecord.bits (r : CommandRecord) : List Bool := frameBits r.bytes

/-! ### The configuration record (R181) -/

/-- The byte at an offset of the arguments. -/
def argByte (args : List Byte) (i : Nat) : Byte := args.getD i 0

/-- The two-byte field at an offset of the arguments. -/
def argHalf (args : List Byte) (i : Nat) : Half := half (argByte args i) (argByte args (i + 1))

/-- The configuration record that 59 argument bytes carry, its fields in order of index. -/
def ConfigRecord.ofBytes (a : List Byte) : ConfigRecord :=
  { trainId := argHalf a 0, trainSize := argByte a 2, exitPresent := argByte a 3, reportPeriod := argByte a 4,
    announcePeriod := argByte a 5, linkTimeout := argByte a 6, mode := argByte a 7, lUp := argHalf a 8, lDn := argHalf a 10,
    upp := word (argByte a 12) (argByte a 13) (argByte a 14) (argByte a 15), fOn := argHalf a 16, fOff := argHalf a 18,
    nOn := argHalf a 20, nOff := argHalf a 22, forceTolerance := argHalf a 24, windowTolerance := argByte a 26,
    armLead := argHalf a 27, tailLead := argHalf a 29, workingAngle := argHalf a 31, parkAngle := argHalf a 33,
    liftTime := argHalf a 35, settleTime := argHalf a 37, lowerTime := argHalf a 39, holdOff := argHalf a 41,
    tensionBand := argHalf a 43, tensionLimit := argHalf a 45, trimLimit := argByte a 47, trimStep := argByte a 48,
    sampleTimeout := argByte a 49, encoderStall := argByte a 50, ageLimit := argHalf a 51, stopThreshold := argByte a 53,
    autoStopHeadLost := argByte a 54, autoStopLooper := argByte a 55, irqThreshold := argByte a 56,
    faultEnables := argHalf a 57 }

/-- The 59 argument bytes of a CONFIG_WRITE that carries this record. -/
def ConfigRecord.bytes (c : ConfigRecord) : List Byte :=
  bytes16 c.trainId ++ [c.trainSize, c.exitPresent, c.reportPeriod, c.announcePeriod, c.linkTimeout, c.mode] ++
  bytes16 c.lUp ++ bytes16 c.lDn ++ bytes32 c.upp ++ bytes16 c.fOn ++ bytes16 c.fOff ++ bytes16 c.nOn ++ bytes16 c.nOff ++
  bytes16 c.forceTolerance ++ [c.windowTolerance] ++ bytes16 c.armLead ++ bytes16 c.tailLead ++ bytes16 c.workingAngle ++
  bytes16 c.parkAngle ++ bytes16 c.liftTime ++ bytes16 c.settleTime ++ bytes16 c.lowerTime ++ bytes16 c.holdOff ++
  bytes16 c.tensionBand ++ bytes16 c.tensionLimit ++
  [c.trimLimit, c.trimStep, c.sampleTimeout, c.encoderStall] ++ bytes16 c.ageLimit ++
  [c.stopThreshold, c.autoStopHeadLost, c.autoStopLooper, c.irqThreshold] ++ bytes16 c.faultEnables

/-! ### Host read records (R182) -/

/-- An event record of eight bytes. -/
def Event.bytes (e : Event) : List Byte :=
  [byteOf e.kind.number, byteOf e.kind.cls] ++ bytes16 e.tag ++ bytes16 e.detail ++ bytes16 e.stamp

/-- The event record whose kind is NONE and whose other fields are 0 (R174). -/
def noEventBytes : List Byte := List.replicate 8 0


/-- A pass of an entry record: absent as zeros (R178). -/
def passBytes : Option PassEntry → List Byte
  | some p => p.bytes
  | none => List.replicate 9 0

/-- The flags byte of an entry record: Table 4.2 in its order from bit 0. -/
def EntryFlags.byte (f : EntryFlags) : Byte :=
  bitsByte [f.tailSeen, f.downstreamGap, f.tagMismatch, f.lateLift, f.unsupervised, f.trimFaultHeld]

/-- The reached and void indications of an entry (Table 11.6, offset 37). -/
def Entry.reachedByte (e : Entry) : Byte :=
  bitsByte [e.headMarks.any HeadMarks.armReached, e.headMarks.any HeadMarks.lowReached, e.headMarks.any HeadMarks.expiryReached,
    e.tailMarks.any TailMarks.loweringReached, e.tailMarks.any TailMarks.overdueReached, e.tailStamp.any TailStamp.void]

/-- The presence byte of an entry (Table 11.6, offset 4). -/
def Entry.presenceByte (e : Entry) : Byte :=
  bitsByte [e.barThickness.isSome, (e.window.bind PassWindow.up).isSome, (e.window.bind PassWindow.own).isSome,
    (e.window.bind PassWindow.down).isSome, e.biteStamp.isSome, e.headMarks.isSome, e.tailStamp.isSome, e.tailMarks.isSome]

/-- A mark as a four-byte field, absent as 0. -/
def markBytes (m : Option Nat) : List Byte := bytes32 (BitVec.ofNat 32 (m.getD 0))

/-- The 74 bytes of a tracking entry (Table 11.6). -/
def Entry.bytes (e : Entry) : List Byte :=
  bytes16 e.tag ++ [e.origin.code, e.phase.code, e.presenceByte] ++ bytes16 (e.barThickness.getD 0) ++
  passBytes (e.window.bind PassWindow.up) ++ passBytes (e.window.bind PassWindow.own) ++
  passBytes (e.window.bind PassWindow.down) ++
  [e.downstream.code, e.verification.code, e.flags.byte, e.reachedByte] ++ bytes32 (e.biteStamp.getD 0) ++
  markBytes (e.headMarks.map HeadMarks.armPoint) ++ markBytes (e.headMarks.map HeadMarks.windowLow) ++
  markBytes (e.headMarks.map HeadMarks.windowHigh) ++ bytes32 ((e.tailStamp.map TailStamp.position).getD 0) ++
  markBytes (e.tailMarks.map TailMarks.lowering) ++ markBytes (e.tailMarks.map TailMarks.tailLow) ++
  markBytes (e.tailMarks.map TailMarks.tailHigh) ++ bytes32 (BitVec.ofNat 32 e.age)

/-- An entry record (R182): the order slot, the number of entries, and the entry. -/
def entryRecord (slot count : Nat) (e : Entry) : List Byte := [byteOf slot, byteOf count] ++ e.bytes

/-! ### Host port transactions (R168, R181) -/

/-- The command of a code with its arguments: 1 to 17 in the order of Table 10.1, every other code unknown. -/
def hostCommand (code : Byte) (args : List Byte) : Instr :=
  match code.toNat with
  | 1 => .configWrite args
  | 2 => .start args
  | 3 => .statusRead args
  | 4 => .eventRead args
  | 5 => .faultClear args
  | 6 => .countersRead args
  | 7 => .pieceAnnounce args
  | 8 => .pieceWithdraw args
  | 9 => .trackRead args
  | 10 => .trackFind args
  | 11 => .trackInsert args
  | 12 => .trackRemove args
  | 13 => .looperRelease args
  | 14 => .trainStop args
  | 15 => .trainResume args
  | 16 => .busRelink args
  | 17 => .softReset args
  | _ => .unknownCommand code args

/-- The command that the bytes of a transaction are: taken once the argument bytes announced are in, bytes after them ignored;
broken off where the transaction ends before that (R168). -/
def spiTransaction : List Byte → Instr
  | code :: len :: rest =>
    if rest.length < len.toNat then .spiTransactionAborted (code :: len :: rest)
    else hostCommand code (rest.take len.toNat)
  | bs => .spiTransactionAborted bs

/-- How many of the bytes of a transaction are the host's command: code, length and arguments (R168). -/
def commandLength : List Byte → Nat
  | _ :: len :: rest => 2 + min len.toNat rest.length
  | bs => bs.length

/-- The response bytes on SPI_DO: the status byte and the data (R181). -/
def Response.bytes (r : Response) : List Byte := r.status.code :: r.data

/-- The bytes on SPI_DO in a transaction, one for each byte on SPI_DI: 0 while the host is sending (R181), then the response, as far as
the host clocks it out. Where no command was taken there is none (R168). -/
def spiOut (sent : List Byte) (response : Option Response) : List Byte :=
  List.replicate (commandLength sent) 0 ++ ((response.map Response.bytes).getD []).take (sent.length - commandLength sent)

/-- The eight bits of a byte on SPI_DI or SPI_DO, most significant first (R168). -/
def spiByteBits (b : Byte) : List Bool :=
  [b.getLsbD 7, b.getLsbD 6, b.getLsbD 5, b.getLsbD 4, b.getLsbD 3, b.getLsbD 2, b.getLsbD 1, b.getLsbD 0]

/-- The bits of bytes on SPI_DI or SPI_DO (R168). -/
def spiBits (bytes : List Byte) : List Bool := bytes.flatMap spiByteBits

/-- The bytes that the bits on SPI_DI carry (R168). A byte that the end of the transaction leaves unfinished is none (log 17). -/
def spiBytes : List Bool → List Byte
  | b7 :: b6 :: b5 :: b4 :: b3 :: b2 :: b1 :: b0 :: line => bitsByte [b0, b1, b2, b3, b4, b5, b6, b7] :: spiBytes line
  | _ => []

/-- The command that the bits of a transaction on SPI_DI are (R168). -/
def receiveTransaction (line : List Bool) : Instr := spiTransaction (spiBytes line)

/-- The bits on SPI_DO in a transaction, one for each bit on SPI_DI (R168). A byte that the host leaves unfinished shows its first bits
alone, so the bits are those of whole bytes, cut to length. -/
def spiBitsOut (line : List Bool) (response : Option Response) : List Bool :=
  (spiBits (spiOut (spiBytes (line ++ List.replicate 7 false)) response)).take line.length

end Sys2Proof.Machine
end

