-- ==== Sys2Proof/Machine/Operands.lean ====
section
/-! DEFINITION. What the operands of the commands are checked against and what is taken from them: the position and its role (R14),
the required neighbours (R15), the ranges of the configuration record (R16), the checks of a piece record (R3), the pass window
(R6) and the quantities the other blocks read from an entry (R7). -/

namespace Sys2Proof.Machine

/-! ### Position, role and neighbours -/

/-- The role of a position (R14). -/
def roleOf (position : BitVec 4) : Role :=
  if position = 0 then .entry
  else if position.toNat ≤ 8 then .stand
  else if position = 9 then .exit
  else .invalid

/-- The train size N. -/
def ConfigRecord.n (c : ConfigRecord) : Nat := c.trainSize.toNat

/-- Exit present is yes (field 3). -/
def ConfigRecord.hasExit (c : ConfigRecord) : Bool := c.exitPresent == 1

/-- The mode is FULL (field 7). -/
def ConfigRecord.fullMode (c : ConfigRecord) : Bool := c.mode == 0

/-- The position of the upstream neighbour (Table 2.1). -/
def upstreamOf (c : ConfigRecord) (position : BitVec 4) : Option (Fin 10) :=
  match roleOf position with
  | .entry | .invalid => none
  | .stand => some (Fin.ofNat 10 (position.toNat - 1))
  | .exit => some (Fin.ofNat 10 c.n)

/-- The position of the downstream neighbour (Table 2.1). -/
def downstreamOf (c : ConfigRecord) (position : BitVec 4) : Option (Fin 10) :=
  match roleOf position with
  | .entry => some 1
  | .stand =>
    if position.toNat < c.n then some (Fin.ofNat 10 (position.toNat + 1)) else if c.hasExit then some 9 else none
  | .exit | .invalid => none

/-- A line of the acquisition table as START makes it (R19): SEEK, with an agreement count of 0. -/
def newLine (relation : Relation) (position : Fin 10) : AcqLine :=
  { position := position, relation := relation, state := .seek, agreements := 0 }

/-- The lines of the acquisition table, one for each required neighbour (R15, R19). R19 gives the lines no order: the upstream
neighbour's comes first (DESIGN CHOICE, log 22). -/
def requiredLines (c : ConfigRecord) (position : BitVec 4) : List AcqLine :=
  ((upstreamOf c position).map (newLine .upstream)).toList ++ ((downstreamOf c position).map (newLine .downstream)).toList

/-- The role belongs to the configured train (R18, test 4). -/
def belongs (c : ConfigRecord) (position : BitVec 4) : Bool :=
  match roleOf position with
  | .entry => true
  | .stand => position.toNat ≤ c.n
  | .exit => c.hasExit
  | .invalid => false

/-- The role has a bite window (Table 4.4): ENTRY, STAND k with k below N, and STAND N when an exit is present. -/
def hasBiteWindow (c : ConfigRecord) (position : BitVec 4) : Bool :=
  match roleOf position with
  | .entry => true
  | .stand => position.toNat < c.n || c.hasExit
  | .exit | .invalid => false

/-- The station drives a looper and trims: STAND, position below N, mode FULL (R123, R144). -/
def drivesLooper (c : ConfigRecord) (position : BitVec 4) : Bool :=
  roleOf position == .stand && position.toNat < c.n && c.fullMode

/-- The role of a station. -/
def State.role (s : State) : Role := roleOf s.station.position

/-- A source position is this station's own position (R48). -/
def State.ownPosition (s : State) (src : Fin 10) : Bool := src.val == s.station.position.toNat

/-- The line of the required neighbour at a position, if it is one. -/
def State.line? (s : State) (src : Fin 10) : Option AcqLine := s.station.lines.find? fun l => l.position = src

/-- A source position is that of the upstream neighbour (R15). -/
def State.isUpstream (s : State) (src : Fin 10) : Bool :=
  s.station.lines.any fun l => l.position = src && l.relation = .upstream

/-- A source position is that of the downstream neighbour (R15). -/
def State.isDownstream (s : State) (src : Fin 10) : Bool :=
  s.station.lines.any fun l => l.position = src && l.relation = .downstream

/-- The position as four bits of a telegram's header or an event detail. -/
def nibble (src : Fin 10) : BitVec 4 := BitVec.ofNat 4 src.val

/-- LINKING, RUNNING or STOPPED: the states in which telegrams are dispatched (R51) and the stand interface's timers run (R91). -/
def StationState.live : StationState → Bool
  | .linking | .running | .stopped => true
  | .configuring | .faulted => false

/-- The station is in one of those states. -/
def State.live (s : State) : Bool := s.station.state.live

/-- The station is RUNNING. -/
def State.running (s : State) : Bool := s.station.state == .running

/-! ### Ranges of the configuration record (Table 2.3, R16) -/

/-- A number lies in a range, both ends included. -/
def within (x lo hi : Nat) : Bool := lo ≤ x && x ≤ hi

/-- The fault flags that can be named: eleven bits (R181). -/
def faultFlagCount : Nat := 11

/-- Whether each of the 36 fields lies in its range, in order of index. -/
def ConfigRecord.inRange (c : ConfigRecord) : List Bool :=
  [within c.trainId.toNat 1 65535,
   within c.trainSize.toNat 1 8,
   within c.exitPresent.toNat 0 1,
   within c.reportPeriod.toNat 5 100,
   within c.announcePeriod.toNat 10 200,
   within c.linkTimeout.toNat 1 60,
   within c.mode.toNat 0 1,
   within c.lUp.toNat 1000 12000,
   within c.lDn.toNat 1000 12000,
   within c.upp.toNat 10000 8000000,
   within c.fOn.toNat 1 60000,
   within c.fOff.toNat 1 c.fOn.toNat,
   within c.nOn.toNat 4 1023,
   within c.nOff.toNat 4 1023,
   within c.forceTolerance.toNat 10 500,
   within c.windowTolerance.toNat 5 200,
   within c.armLead.toNat 0 65535,
   within c.tailLead.toNat 0 65535,
   within c.workingAngle.toNat 50 800,
   within c.parkAngle.toNat 0 (c.workingAngle.toNat - 50),
   within c.liftTime.toNat 50 3000,
   within c.settleTime.toNat 0 1000,
   within c.lowerTime.toNat 50 3000,
   within c.holdOff.toNat 100 10000,
   within c.tensionBand.toNat 10 500,
   within c.tensionLimit.toNat 64 16368,
   within c.trimLimit.toNat 0 100,
   within c.trimStep.toNat 1 255,
   within c.sampleTimeout.toNat 2 20,
   within c.encoderStall.toNat 10 200,
   within c.ageLimit.toNat 1 600,
   within c.stopThreshold.toNat 1 8,
   within c.autoStopHeadLost.toNat 0 7,
   within c.autoStopLooper.toNat 0 7,
   within c.irqThreshold.toNat 0 3,
   within c.faultEnables.toNat 0 (2 ^ faultFlagCount - 1)]

/-- The index of the first field out of range, fields checked in ascending order of index (R17). -/
def ConfigRecord.firstBad (c : ConfigRecord) : Option Nat := (c.inRange.findIdx? fun ok => !ok).map (· + 1)

/-- The link timeout in milliseconds: field 6 is in seconds. -/
def ConfigRecord.linkTimeoutMs (c : ConfigRecord) : Nat := 1000 * c.linkTimeout.toNat

/-- The age limit in milliseconds: field 31 is in seconds (R81). -/
def ConfigRecord.ageLimitMs (c : ConfigRecord) : Nat := 1000 * c.ageLimit.toNat

/-- The length of the report age timer: four report periods (R145, R151). -/
def ConfigRecord.reportAgeMs (c : ConfigRecord) : Nat := 4 * c.reportPeriod.toNat

/-! ### Checks of a piece record (R3, Table 1.3) -/

/-- The check a record failed, and in which pass (0 for checks 1 to 3). -/
structure RecordFailure where
  check : Nat
  pass : Nat
  deriving DecidableEq, Repr

/-- The first of checks 4 to 9 that pass i of N fails; `before` is the bar thickness or the exit thickness of pass i − 1. -/
def checkPass (n i before : Nat) (p : PassEntry) : Option Nat :=
  if ¬ within p.exitThickness.toNat 500 40000 then some 4
  else if before < p.exitThickness.toNat then some 5
  else if 150 < p.forwardSlip.toNat then some 6
  else if ¬ within p.speedRef.toNat 300 25000 then some 7
  else if ¬ (p.expectedForce = 0 ∨ within p.expectedForce.toNat 1 60000) then some 8
  else if ¬ (if i < n then within p.tensionRef.toNat 1 2000 else p.tensionRef = 0) then some 9
  else none

/-- The first failure among the passes from pass i on. -/
def checkPasses (n : Nat) : Nat → Nat → List PassEntry → Option RecordFailure
  | _, _, [] => none
  | i, before, p :: rest =>
    match checkPass n i before p with
    | some check => some { check := check, pass := i }
    | none => checkPasses n (i + 1) p.exitThickness.toNat rest

/-- The first check of Table 1.3 that a piece record fails, in the order of R3; none for a valid record. -/
def checkRecord (n : Nat) (r : PieceRecord) : Option RecordFailure :=
  if r.tag = 0 then some { check := 1, pass := 0 }
  else if r.passes.length ≠ n then some { check := 2, pass := 0 }
  else if ¬ within r.barThickness.toNat 8000 60000 then some { check := 3, pass := 0 }
  else checkPasses n 1 r.barThickness.toNat r.passes

/-! ### Pass window and quantities (R6, R7) -/

/-- The pass window of a role and position (Table 1.4). -/
def passWindow (c : ConfigRecord) (position : BitVec 4) (r : PieceRecord) : PassWindow :=
  let k := position.toNat
  match roleOf position with
  | .entry => { up := none, own := none, down := r.passes[0]? }
  | .stand =>
    { up := if k = 1 then none else r.passes[k - 2]?, own := r.passes[k - 1]?, down := if k < c.n then r.passes[k]? else none }
  | .exit => { up := r.passes[c.n - 1]?, own := none, down := none }
  | .invalid => { up := none, own := none, down := none }

/-- The own pass of an entry. -/
def Entry.ownPass (e : Entry) : Option PassEntry := e.window.bind PassWindow.own

/-- The downstream pass of an entry. -/
def Entry.downPass (e : Entry) : Option PassEntry := e.window.bind PassWindow.down

/-- H_up: the exit thickness of the upstream pass, the bar thickness at stand 1 (R7). -/
def Entry.hUp (e : Entry) (position : BitVec 4) : Option Nat :=
  if position = 1 then e.barThickness.map BitVec.toNat
  else (e.window.bind PassWindow.up).map fun p => p.exitThickness.toNat

/-- S_own: the own forward slip, 0 at the ENTRY station; absent without a pass window (R7). -/
def Entry.sOwn (e : Entry) (position : BitVec 4) : Option Nat :=
  if roleOf position = .entry then e.window.map fun _ => 0 else e.ownPass.map fun p => p.forwardSlip.toNat

/-- E: the expected force of the own pass, absent where its field is 0 (R2, R7). -/
def Entry.expectedForce (e : Entry) : Option Nat :=
  match e.ownPass with
  | some p => if p.expectedForce = 0 then none else some p.expectedForce.toNat
  | none => none

/-- T_ref: the tension reference of the own pass, absent where its field is 0 (R2, R7). -/
def Entry.tensionRef (e : Entry) : Option Half :=
  match e.ownPass with
  | some p => if p.tensionRef = 0 then none else some p.tensionRef
  | none => none

end Sys2Proof.Machine
end

