-- ==== Sys2Proof/Machine/Flags.lean ====
section
/-! DEFINITION. The host port's event queue, fault flags and lines (Chapter 10): raising an event, setting and clearing a latched
flag, and what is computed from the state: the condition flags, IRQ# and FAULT#. -/

namespace Sys2Proof.Machine

/-! ### The event queue (R173) -/

/-- The queue holds at most 32 events. -/
def eventRoom : Nat := 32

/-- The greatest class among queued events, 0 for none. -/
def greatestClass (es : List Event) : Nat := es.foldr (fun e m => max e.kind.cls m) 0

/-- The place of the youngest event of a class. -/
def youngestOf (cls : Nat) : List Event → Option Nat
  | [] => none
  | e :: es =>
    match youngestOf cls es with
    | some i => some (i + 1)
    | none => if e.kind.cls = cls then some 0 else none

/-- The place of the event that a new event of class c displaces from a full queue: the youngest of the greatest class present,
where that is greater than c (R173). -/
def displacedBy (c : Nat) (es : List Event) : Option Nat :=
  if c < greatestClass es then youngestOf (greatestClass es) es else none

/-- The eight latched flags, in the order of their bits (R181). -/
inductive LatchedFlag where
  | headLost | tension | liftTimeout | lowerTimeout | sampleLoss | encoder | eventOverflow | txDrop
  deriving DecidableEq, Repr

/-- The mask of one latched flag (R181). -/
def LatchedFlag.mask (f : LatchedFlag) : Byte := (1 : Byte) <<< f.ctorIdx

/-- Setting a latched flag turns it on; one already on stays on (R176). -/
def HostPort.setFlag (f : LatchedFlag) (h : HostPort) : HostPort := { h with latched := h.latched ||| f.mask }

/-- Each overflow advances the overflow count and sets EVENT_OVERFLOW (R173). -/
def HostPort.countOverflow (h : HostPort) : HostPort := { h with overflow := satInc h.overflow }.setFlag .eventOverflow

/-- The event record being clocked out after the overflow rule has removed the event at place i (R174). -/
def EventRead.afterRemoval (i : Nat) (r : EventRead) : EventRead := if i = 0 ∧ r = .head then .displaced else r

/-- An event is raised (R173): appended while there is room; in a full queue it displaces an event of a greater class, or it is
discarded. -/
def HostPort.raise (e : Event) (h : HostPort) : HostPort :=
  if h.events.length < eventRoom then { h with events := h.events ++ [e] }
  else
    match displacedBy e.kind.cls h.events with
    | some i => { h with events := h.events.eraseIdx i ++ [e], reading := h.reading.afterRemoval i }.countOverflow
    | none => h.countOverflow

/-- An event is raised and stamped with the lower 16 bits of the time base (R9, R173). -/
def State.raise (kind : EventKind) (tag detail : Half) (s : State) : State :=
  { s with host := s.host.raise { kind := kind, tag := tag, detail := detail, stamp := s.timeBase.setWidth 16 } }

/-- A latched flag is set (R176). -/
def State.setFlag (f : LatchedFlag) (s : State) : State := { s with host := s.host.setFlag f }

/-- A detail of a high byte and a low byte (R183). -/
def detail (high low : Byte) : Half := half high low

/-! ### Fault flags and lines (R175, R176) -/

/-- The eleven fault flags in the numbering of R181: the latched ones in bits 0 to 7, then STOPPED, FAULTED and SILENT, each on
exactly while its state stands (R176). -/
def State.faultFlags (s : State) : Half :=
  s.host.latched.setWidth 16 ||| (if s.station.state = .stopped then 0x100 else 0) |||
    (if s.station.state = .faulted then 0x200 else 0) ||| (if s.bus.state = .silent then 0x400 else 0)

/-- The IRQ threshold in force: that of the record most recently accepted, 3 before any (R175). -/
def State.irqThreshold (s : State) : Nat :=
  match s.station.config with
  | some c => c.irqThreshold.toNat
  | none => 3

/-- The fault enables in force: those of the record most recently accepted, none before any (R176). -/
def State.faultEnables (s : State) : Half :=
  match s.station.config with
  | some c => c.faultEnables
  | none => 0

/-- IRQ# is asserted while an event of a class at or below the threshold is queued (R175). -/
def State.irqAsserted (s : State) : Bool := s.host.events.any fun e => e.kind.cls ≤ s.irqThreshold

/-- FAULT# is asserted while a flag named in the fault enables is on (R176). -/
def State.faultAsserted (s : State) : Bool := s.faultFlags &&& s.faultEnables != 0

end Sys2Proof.Machine
end

