-- ==== Sys2Proof/Machine/Ops.lean ====
section
/-! DEFINITION. The shared operations over the blocks' state: queuing a telegram (R33 to R36), entering STOPPED (R163, R164) and
FAULTED (R28), originating a train stop (R160, R161), resuming (R166, R167), and reading and writing the tracking table (R57 to
R60). -/

namespace Sys2Proof.Machine

/-! ### Transmit queues -/

/-- The queue of a class (R33). -/
def Bus.queue (b : Bus) : TxClass → List Queued
  | .stop => b.stopQueue | .event => b.eventQueue | .report => b.reportQueue | .link => b.linkQueue

/-- The bus unit with the queue of one class replaced. -/
def Bus.withQueue (b : Bus) (q : List Queued) : TxClass → Bus
  | .stop => { b with stopQueue := q }
  | .event => { b with eventQueue := q }
  | .report => { b with reportQueue := q }
  | .link => { b with linkQueue := q }

/-- How many telegrams a queue has room for (R33). -/
def TxClass.room : TxClass → Nat
  | .stop => 2 | .event => 8 | .report => 1 | .link => 1

/-- A telegram as it joins its queue: no failed attempts and no sequence number (R34, R37). -/
def fresh (t : Telegram) : Queued := { telegram := t, failed := 0, seq := none }

/-- The attempt on the line after the telegrams of class c that satisfy `gone` have left their queue (R42). -/
def Bus.detachAttempt (b : Bus) (gone : TxClass → Telegram → Bool) : Option Attempt :=
  b.attempt.map fun a => if gone a.cls a.telegram then { a with queued := false } else a

/-- A telegram is dropped: the TX_DROP event, counter and flag (R35, R41). The reason is QUEUE_FULL 0 or RETRIES 1 (R183). -/
def State.dropTelegram (t : Telegram) (reason : Byte) (s : State) : State :=
  let s := { s with bus := { s.bus with counters := { s.bus.counters with txDrop := satAdd s.bus.counters.txDrop 1 } } }
  (s.raise .txDrop t.tag (detail (t.kind.setWidth 8) reason)).setFlag .txDrop

/-- A block queues a telegram. While the bus unit is SILENT or the station FAULTED it is discarded (R36). A REPORT or LINK
telegram replaces the one held (R34); a STOP or EVENT telegram joins its queue, or is dropped where that is full (R35). -/
def State.queueTelegram (t : Telegram) (s : State) : State :=
  if s.bus.state = .silent ∨ s.station.state = .faulted then s
  else
    match t.cls with
    | .stop | .event =>
      if (s.bus.queue t.cls).length < t.cls.room then
        { s with bus := s.bus.withQueue (s.bus.queue t.cls ++ [fresh t]) t.cls }
      else s.dropTelegram t 0
    | .report | .link =>
      { s with
        bus := { s.bus.withQueue [fresh t] t.cls with attempt := s.bus.detachAttempt fun cls _ => cls = t.cls } }

/-- A HANDOFF_FAULT telegram. -/
def Telegram.isHandoffFault : Telegram → Bool
  | .handoffFault _ _ => true
  | .announce _ | .pieceEntry _ | .pieceWithdraw _ | .headBite _ _ _ | .tailOut _ _ | .speedReport _ _ | .trainStop _ _
  | .trainResume => false

/-- The flush on entering STOPPED (R164): the EVENT queue keeps its HANDOFF_FAULT telegrams, the REPORT queue is emptied, an
attempt on the line runs on. -/
def Bus.flushForStop (b : Bus) : Bus :=
  { b with
    eventQueue := b.eventQueue.filter fun q => q.telegram.isHandoffFault
    reportQueue := []
    attempt := b.detachAttempt fun cls t => cls = .report || (cls = .event && !t.isHandoffFault) }

/-- All four queues are emptied (R28, R43). -/
def Bus.flushAll (b : Bus) : Bus := { b with stopQueue := [], eventQueue := [], reportQueue := [], linkQueue := [] }

/-! ### Entering STOPPED and FAULTED -/

/-- The trim calculator enters OFF at once, and its report period timer stops (R156, R157). -/
def Trim.toOff (t : Trim) : Trim :=
  { t with state := .off, target := 0, current := 0, ageTimer := none, saturated := false, reportTimer := none }

/-- The looper parked at once: its lift, settle and lower timers stopped, the integrator 0, the pending flags clear (R141,
R142). -/
def Looper.park (l : Looper) : Looper :=
  { l with state := .parked, liftTimer := none, settleTimer := none, lowerTimer := none, integrator := 0, armPending := false,
           liftPending := false }

/-- The looper on entering STOPPED (R141). -/
def Looper.toStopped (l : Looper) : Looper :=
  match l.state with
  | .parked | .holdOff => l
  | .armed | .lifting _ | .regulating | .lowering => l.park

/-- The station enters STOPPED, and every block reacts as Table 9.1 says (R163). -/
def State.enterStopped (s : State) : State :=
  { s with
    station := { s.station with state := .stopped }
    bus := s.bus.flushForStop
    table := []
    detector := { s.detector with verify := .idle }
    looper := s.looper.toStopped
    trim := s.trim.toOff }

/-- The station enters FAULTED for a cause that the telegram of a source position made (R28, R94, R96). -/
def State.enterFaulted (cause : FaultCause) (src : Fin 10) (s : State) : State :=
  let s' := { s with
    station := { s.station with
      state := .faulted, fault := some (cause, src), announceTimer := none, linkTimer := none }
    bus := { s.bus.flushAll with attempt := none }
    table := []
    stand := { s.stand with sampleTimer := none, stallTimer := none, sampleLoss := false, encoderStall := false }
    detector := Detector.reset
    looper := { s.looper.park with holdOffTimer := none }
    trim := s.trim.toOff }
  s'.raise .stationFaulted 0 (detail cause.code (byteOf src.val))

/-! ### Train stop and resume (Chapter 9) -/

/-- The detail of STOP_ACTED and STOP_IGNORED: the level, the source position and the low four bits of the cause (R183). -/
def stopDetail (level : Byte) (src : BitVec 4) (cause : Byte) : Half := detail level (src ++ cause.setWidth 4 : BitVec 8)

/-- A station that has queued a TRAIN_STOP takes its own stop: in RUNNING it enters STOPPED, whatever its threshold (R161). -/
def State.takeOwnStop (level cause : Byte) (s : State) : State :=
  if s.station.state = .running then
    s.enterStopped.raise .stopActed 0 (stopDetail level s.station.position cause)
  else s

/-- A TRAIN_STOP is originated: queued, then taken by the station itself (R159, R160). -/
def State.originateStop (level cause : Byte) (s : State) : State :=
  (s.queueTelegram (.trainStop level cause)).takeOwnStop level cause

/-- The auto-stop of a fault: none at level 0 (R160). -/
def State.autoStop (level cause : Byte) (s : State) : State := if level = 0 then s else s.originateStop level cause

/-- A resume from a source position is taken (R166). In STOPPED with the load detector UNLOADED the station enters RUNNING, every
block from the state the stop left (R167); with any other detector state it stays STOPPED. In RUNNING and LINKING it has no
effect. -/
def State.takeResume (src : BitVec 4) (s : State) : State :=
  if s.station.state = .stopped then
    if s.detector.state = .unloaded then
      { s with station := { s.station with state := .running } }.raise .resumed 0 (src.setWidth 16)
    else s.raise .resumeRefused 0 (detail (src.setWidth 8) s.detector.state.code)
  else s

/-! ### The tracking table -/

/-- The table holds at most eight entries (R60). -/
def tableRoom : Nat := 8

/-- The entry is in-stand: IN_STAND or TAIL_APPROACHING (R56). -/
def Entry.isInStand (e : Entry) : Bool := e.phase == .inStand || e.phase == .tailApproaching

/-- The downstream status is an awaiting status: PENDING, OPEN, UNTIMED or UNCONFIRMED (Section 4.7). -/
def Downstream.awaiting : Downstream → Bool
  | .pending | .inWindow | .untimed | .unconfirmed => true
  | .noHead | .confirmed | .lost => false

/-- The order slot of the oldest entry that satisfies p (R59). -/
def State.oldest (s : State) (p : Entry → Bool) : Option Nat := s.table.findIdx? p

/-- The order slot of the entry with a nonzero tag; none for tag 0, which names no piece (R1). -/
def State.slotOfTag (s : State) (tag : Half) : Option Nat := if tag = 0 then none else s.oldest fun e => e.tag = tag

/-- The in-stand entry (R61). -/
def State.inStand? (s : State) : Option Entry := s.table.find? Entry.isInStand

/-- The order slot of the in-stand entry. -/
def State.inStandSlot (s : State) : Option Nat := s.oldest Entry.isInStand

/-- The tracking engine writes fields of the entry at a slot, which is a refresh of its age (R58). -/
def State.writeEntry (slot : Nat) (f : Entry → Entry) (s : State) : State :=
  { s with table := s.table.modify slot fun e => { f e with age := 0 } }

/-- A telegram names an entry's nonzero tag: the entry's age is refreshed (R58). -/
def State.refreshTag (tag : Half) (s : State) : State :=
  match s.slotOfTag tag with
  | some slot => s.writeEntry slot id
  | none => s

/-- The entry at a slot is removed; the others close up (R59). -/
def State.removeEntry (slot : Nat) (s : State) : State := { s with table := s.table.eraseIdx slot }

/-- A block asks for a flag of the in-stand entry (R57); with no in-stand entry nothing changes. -/
def State.requestFlag (f : EntryFlags → EntryFlags) (s : State) : State :=
  match s.inStandSlot with
  | some slot => s.writeEntry slot fun e => { e with flags := f e.flags }
  | none => s

/-- An entry's origin after a change of its phase: MANUAL becomes BUS (R56). -/
def Origin.afterAdvance : Origin → Origin
  | .manual => .bus
  | .bus => .bus
  | .anonymous => .anonymous

/-- The entry advanced to a phase (R56). -/
def Entry.advance (p : Phase) (e : Entry) : Entry := { e with phase := p, origin := e.origin.afterAdvance }

/-- Why an UNEXPECTED_FRAME is raised (R183). -/
inductive FrameReason where
  | unknownTag | wrongPhase | order | headNotSeen | noCandidate | notEntry
  deriving DecidableEq, Repr

/-- The code of that reason. -/
def FrameReason.code : FrameReason → Byte
  | .unknownTag => 0 | .wrongPhase => 1 | .order => 2 | .headNotSeen => 3 | .noCandidate => 4 | .notEntry => 5

/-- UNEXPECTED_FRAME for a telegram of a kind from a source position (R183). -/
def State.unexpected (kind : BitVec 4) (src : Fin 10) (reason : FrameReason) (tag : Half) (s : State) : State :=
  s.raise .unexpectedFrame tag (kind ++ nibble src ++ reason.code : BitVec 16)

/-- Why a PIECE_REFUSED is raised (R183). -/
inductive RefuseReason where
  | malformed (f : RecordFailure)
  | duplicate
  | full
  deriving DecidableEq, Repr

/-- The detail of PIECE_REFUSED. -/
def RefuseReason.detail : RefuseReason → Half
  | .malformed f => Machine.detail 0 (BitVec.ofNat 4 f.check ++ BitVec.ofNat 4 f.pass : BitVec 8)
  | .duplicate => Machine.detail 1 0
  | .full => Machine.detail 2 0

/-- PIECE_REFUSED with a tag and a reason (R4, R5, R60). -/
def State.refusePiece (tag : Half) (r : RefuseReason) (s : State) : State := s.raise .pieceRefused tag r.detail

/-- The flags of a new entry (R57). -/
def EntryFlags.clear : EntryFlags :=
  { tailSeen := false, downstreamGap := false, tagMismatch := false, lateLift := false, unsupervised := false,
    trimFaultHeld := false }

/-- A new entry of a valid piece record (R63, R65): ANNOUNCED, with the pass window of R6. -/
def newEntry (c : ConfigRecord) (position : BitVec 4) (origin : Origin) (r : PieceRecord) : Entry :=
  { tag := r.tag, origin := origin, phase := .announced, barThickness := some r.barThickness,
    window := some (passWindow c position r), downstream := .noHead, verification := .unchecked, flags := .clear,
    biteStamp := none, headMarks := none, tailStamp := none, tailMarks := none, age := 0 }

/-- A new anonymous entry (R69). -/
def anonymousEntry : Entry :=
  { tag := 0, origin := .anonymous, phase := .inStand, barThickness := none, window := none, downstream := .noHead,
    verification := .unchecked, flags := .clear, biteStamp := none, headMarks := none, tailStamp := none, tailMarks := none,
    age := 0 }

/-- The capacity step (R60): a full table gives up its oldest CLEARED entry, with PIECE_EVICTED; none where it holds none. -/
def State.makeRoom (s : State) : Option State :=
  if s.table.length < tableRoom then some s
  else
    match s.oldest fun e => e.phase = .cleared with
    | none => none
    | some slot =>
      match s.table[slot]? with
      | none => none
      | some e => some ((s.removeEntry slot).raise .pieceEvicted e.tag (e.downstream.code.setWidth 16))

/-- A new entry is created under R60, after its validity: duplicate, capacity, append. A refusal is the reason, and the state then
stays as it is. -/
def State.createEntry (e : Entry) (s : State) : Except RefuseReason State :=
  if (s.slotOfTag e.tag).isSome then .error .duplicate
  else
    match s.makeRoom with
    | none => .error .full
    | some s' => .ok { s' with table := s'.table ++ [e] }

/-- PIECE_ADDED for the youngest entry (R63, R65). -/
def State.raiseAdded (e : Entry) (s : State) : State :=
  s.raise .pieceAdded e.tag (detail e.origin.code (byteOf (s.table.length - 1)))

/-- Why a PIECE_WITHDRAWN is raised: PASSED 0, WITHDRAW 1, HOST 2 (R183). -/
inductive WithdrawReason where
  | passed | withdraw | host
  deriving DecidableEq, Repr

/-- The code of that reason. -/
def WithdrawReason.code : WithdrawReason → Half
  | .passed => 0 | .withdraw => 1 | .host => 2

/-- The entry at a slot is removed with PIECE_WITHDRAWN (R66, R79, R80, R84). -/
def State.withdrawEntry (slot : Nat) (e : Entry) (r : WithdrawReason) (s : State) : State :=
  (s.removeEntry slot).raise .pieceWithdrawn e.tag r.code

/-- The ANNOUNCED entries older than the one at a slot are removed, oldest first, each with PIECE_WITHDRAWN and the reason PASSED
(R66, R68). -/
def State.passOver (slot : Nat) (s : State) : State :=
  let passed := (s.table.take slot).filter fun e => e.phase = .announced
  let kept := (s.table.take slot).filter fun e => e.phase ≠ .announced
  passed.foldl (fun s e => s.raise .pieceWithdrawn e.tag WithdrawReason.passed.code)
    { s with table := kept ++ s.table.drop slot }

/-! ### Distances (R11) -/

/-- The distance travelled from a stamp to a position: the difference modulo 2^32 read as signed, a negative one taken as 0. -/
def distance (position stamp : Word) : Nat :=
  let d := position - stamp
  if d.msb then 0 else d.toNat

/-! ### The latest sample -/

/-- A field of the latest sample, with the state after it is read. Where no sample was ever taken the spec states no value: a free
value (log 7). -/
def State.latestField (f : Sample → Half) (s : State) : Half × State :=
  match s.stand.latest with
  | some x => (f x, s)
  | none => (Config.freeValue s.freeCount, { s with freeCount := s.freeCount + 1 })

end Sys2Proof.Machine
end

