-- ==== Sys2Proof/Machine/Trim.lean ====
section
/-! DEFINITION. The trim calculator (Chapter 8): the target, the step, and the trim's transitions. The meanings of the commands
call these operations. -/

namespace Sys2Proof.Machine

/-! ### The target (R146, R147) -/

/-- V_t: the numerator V_d × H_d × (1000 + S_d) divided by the denominator H_own × (1000 + S_own), rounded to the nearest, a half
up (R146). -/
def matchingSpeed (vd hd sd hOwn sOwn : Nat) : Nat :=
  let num := vd * hd * (1000 + sd)
  let den := hOwn * (1000 + sOwn)
  (2 * num + den) / (2 * den)

/-- Lim: floor(V_ref × TL / 1000) (R147). -/
def trimLimitOf (c : ConfigRecord) (own : PassEntry) : Nat := own.speedRef.toNat * c.trimLimit.toNat / 1000

/-- The raw trim V_t − V_ref (R146). -/
def rawTrim (own down : PassEntry) (vd : Nat) : Int :=
  (matchingSpeed vd down.exitThickness.toNat down.forwardSlip.toNat own.exitThickness.toNat own.forwardSlip.toNat : Int) -
    (own.speedRef.toNat : Int)

/-- The raw trim clamped to −Lim .. +Lim, with the bit of the side it was clamped on: 0 high, 1 low (R147). -/
def clampTrim (lim : Nat) (raw : Int) : Int × Option (BitVec 1) :=
  if (lim : Int) < raw then (lim, some 0)
  else if raw < -(lim : Int) then (-(lim : Int), some 1)
  else (raw, none)

/-- The target is computed from a downstream speed, and the saturation flag with it; a target found clamped with the flag clear
raises TRIM_SATURATED (R147). -/
def State.retarget (c : ConfigRecord) (e : Entry) (vd : Half) (s : State) : State :=
  match e.ownPass, e.downPass with
  | some own, some down =>
    let lim := trimLimitOf c own
    match clampTrim lim (rawTrim own down vd.toNat) with
    | (target, none) => { s with trim := { s.trim with target := target, saturated := false } }
    | (target, some side) =>
      let s' := { s with trim := { s.trim with target := target, saturated := true } }
      if s.trim.saturated then s' else s'.raise .trimSaturated e.tag (side ++ BitVec.ofNat 15 lim : BitVec 16)
  | _, _ => s

/-- The least downstream speed that is taken (R149, R150). -/
def leastSpeed : Nat := 100

/-! ### The step (R148, R155) -/

/-- One trim step from the current trim toward the target. -/
def stepToward (step : Nat) (target current : Int) : Int :=
  if (target - current).natAbs ≤ step then target
  else if current < target then current + step
  else current - step

/-- A sample reaches the trim calculator (R148); in RAMP_OUT a step that brings the current trim to 0 ends in OFF (R155). A RAMP_OUT
that this very sample began, by its verification, with the current trim at 0 already, ends at this sample too (DESIGN CHOICE,
log 25). -/
def State.stepTrim (c : ConfigRecord) (s : State) : State :=
  let current := stepToward c.trimStep.toNat s.trim.target s.trim.current
  match s.trim.state with
  | .off => s
  | .tracking | .held => { s with trim := { s.trim with current := current } }
  | .rampOut =>
    if current = 0 then { s with trim := { s.trim with state := .off, current := 0 } }
    else { s with trim := { s.trim with current := current } }

/-! ### Transitions -/

/-- The conditions for the trim to start on a confirmed in-stand entry (R149). -/
def trimMayStart (e : Entry) (vd : Half) : Bool :=
  e.window.isSome && !e.flags.tagMismatch && e.verification != .suspect && !e.flags.trimFaultHeld && leastSpeed ≤ vd.toNat

/-- The trim enters TRACKING with a target from this speed, the report age timer started. -/
def State.track (c : ConfigRecord) (e : Entry) (vd : Half) (s : State) : State :=
  { s with trim := { s.trim with state := .tracking, ageTimer := some c.reportAgeMs } }.retarget c e vd

/-- The trim calculator is told that the in-stand entry has become CONFIRMED (R149). -/
def State.trimConfirmed (c : ConfigRecord) (e : Entry) (vd : Half) (s : State) : State :=
  if drivesLooper c s.station.position ∧ s.trim.state = .off ∧ trimMayStart e vd then
    { s with trim := { s.trim with saturated := false } }.track c e vd
  else s

/-- Why the trim is held: SPEED_LOW, STALE, or a HANDOFF_FAULT with its code (R152). -/
inductive HoldReason where
  | speedLow | stale
  | fault (code : Byte)
  deriving DecidableEq, Repr

/-- The detail of TRIM_HELD (R183). -/
def HoldReason.detail : HoldReason → Half
  | .speedLow => Machine.detail 0 0
  | .stale => Machine.detail 1 0
  | .fault code => Machine.detail 2 code

/-- The trim enters HELD (R152). -/
def State.holdTrim (tag : Half) (r : HoldReason) (s : State) : State :=
  { s with trim := { s.trim with state := .held, ageTimer := none } }.raise .trimHeld tag r.detail

/-- A SPEED_REPORT is taken (R150, R152). -/
def State.takeSpeedReport (c : ConfigRecord) (src : Fin 10) (tag speed : Half) (s : State) : State :=
  match s.inStand? with
  | none => s
  | some e =>
    if drivesLooper c s.station.position ∧ s.isDownstream src ∧ (tag = e.tag ∨ tag = 0) then
      match s.trim.state with
      | .off | .rampOut => s
      | .tracking => if leastSpeed ≤ speed.toNat then s.track c e speed else s.holdTrim e.tag .speedLow
      | .held => if leastSpeed ≤ speed.toNat ∧ e.flags.trimFaultHeld = false then s.track c e speed else s
    else s

/-- A HANDOFF_FAULT is taken (R153): the in-stand entry takes trim-fault-held, in any trim state (R57), and a TRACKING trim is held. A
station that does not trim, whose trim is OFF, sets the flag too and changes no trim state (R144, log 26). -/
def State.takeHandoffFault (c : ConfigRecord) (src : Fin 10) (tag : Half) (code : Byte) (s : State) : State :=
  match s.inStand? with
  | none => s
  | some e =>
    if s.isDownstream src ∧ (tag = e.tag ∨ tag = 0) then
      let s := s.requestFlag fun f => { f with trimFaultHeld := true }
      match s.trim.state with
      | .tracking => if drivesLooper c s.station.position then s.holdTrim e.tag (.fault code) else s
      | .held | .off | .rampOut => s
    else s

/-- The trim enters RAMP_OUT from TRACKING or HELD: on a SUSPECT bite, at the lowering point, or with the looper LOWERING
(R154). -/
def State.rampOut (s : State) : State :=
  match s.trim.state with
  | .tracking | .held =>
    { s with trim := { s.trim with state := .rampOut, target := 0, saturated := false, ageTimer := none } }
  | .off | .rampOut => s

end Sys2Proof.Machine
end

