-- ==== Sys2Proof/Machine/Looper.lean ====
section
/-! DEFINITION. The looper sequencer (Chapter 7): its command, its transitions, its faults. The meanings of the commands call
these operations. -/

namespace Sys2Proof.Machine

/-- The looper command of a state (Table 7.1). -/
def LooperState.command : LooperState → LooperCommand
  | .parked | .holdOff => .park
  | .armed => .arm
  | .lifting _ => .lift
  | .regulating => .regulate
  | .lowering => .lower

/-- This station drives a looper under the record in force (R123). -/
def State.hasLooper (c : ConfigRecord) (s : State) : Bool := drivesLooper c s.station.position

/-! ### Faults and hold-off (R136 to R138) -/

/-- The five looper faults (Table 7.2). -/
inductive LooperFault where
  | headLost | liftTimeout | tension | lowerTimeout | sampleLoss
  deriving DecidableEq, Repr

/-- The fault code of a HANDOFF_FAULT and the cause of an auto-stop (R179). -/
def LooperFault.code : LooperFault → Byte
  | .headLost => 1 | .liftTimeout => 2 | .tension => 3 | .lowerTimeout => 4 | .sampleLoss => 5

/-- A looper fault puts the looper in HOLD_OFF, whatever its state, and starts the hold-off timer from the beginning (R138). -/
def Looper.toHoldOff (c : ConfigRecord) (l : Looper) : Looper :=
  { l.park with state := .holdOff, holdOffTimer := some c.holdOff.toNat }

/-- The telegram, the hold-off and the auto-stop of a fault of the looper itself, in this order (R136, R137). -/
def State.looperFault (c : ConfigRecord) (f : LooperFault) (s : State) : State :=
  let s := s.queueTelegram (.handoffFault s.looper.served f.code)
  let s := { s with looper := s.looper.toHoldOff c }
  s.autoStop c.autoStopLooper f.code

/-- The HEAD_LOST fault (R114): event and flag, telegram, hold-off where there is a looper, auto-stop, in this order. -/
def State.headLost (c : ConfigRecord) (tag : Half) (inStand : Bool) (s : State) : State :=
  let s := (s.raise .headLost tag (if inStand then 0 else 1)).setFlag .headLost
  let s := s.queueTelegram (.handoffFault tag LooperFault.headLost.code)
  let s := if s.hasLooper c then { s with looper := s.looper.toHoldOff c } else s
  s.autoStop c.autoStopHeadLost LooperFault.headLost.code

/-! ### Making ready (R126, R127) -/

/-- The looper enters ARMED for an entry. -/
def Looper.arm (tag : Half) (l : Looper) : Looper := { l with state := .armed, served := tag }

/-- The arm point of the in-stand entry is reported (R126). -/
def State.looperArmPoint (c : ConfigRecord) (e : Entry) (s : State) : State :=
  if s.hasLooper c then
    match s.looper.state with
    | .parked => { s with looper := s.looper.arm e.tag }
    | .lowering => { s with looper := { s.looper with armPending := true } }
    | .armed | .lifting _ | .regulating | .holdOff => s
  else s

/-- The in-stand entry's window has expired to UNCONFIRMED: an ARMED looper parks (R127). -/
def State.looperUnconfirmed (s : State) : State :=
  match s.looper.state with
  | .armed => { s with looper := { s.looper with state := .parked } }
  | .parked | .lifting _ | .regulating | .lowering | .holdOff => s

/-! ### The lift (R128 to R131) -/

/-- The looper enters LIFTING in phase RISE for an entry. -/
def Looper.lift (c : ConfigRecord) (tag : Half) (l : Looper) : Looper :=
  { l with state := .lifting .rise, liftTimer := some c.liftTime.toNat, served := tag }

/-- The in-stand entry is marked unsupervised, and UNSUPERVISED raised with HOLD_OFF 0 or NO_SCHEDULE 1 (R128, R129). -/
def State.unsupervise (tag why : Half) (s : State) : State :=
  (s.requestFlag fun f => { f with unsupervised := true }).raise .unsupervised tag why

/-- The looper sequencer is told that the in-stand entry has become CONFIRMED: with a pass window R128, without one R129. -/
def State.looperConfirmed (c : ConfigRecord) (e : Entry) (s : State) : State :=
  if s.hasLooper c then
    match s.looper.state with
    | .parked | .armed =>
      if e.window.isSome then { s with looper := s.looper.lift c e.tag }
      else { s with looper := { s.looper with state := .parked } }.unsupervise e.tag 1
    | .lowering =>
      if e.window.isSome then
        { s with looper := { s.looper with liftPending := true } }.requestFlag fun f => { f with lateLift := true }
      else s
    | .holdOff => s.unsupervise e.tag 0
    | .lifting _ | .regulating => s
  else s

/-- The looper enters REGULATING: the integrator 0, HANDOFF_DONE raised (R131). -/
def State.regulate (s : State) : State :=
  { s with
    looper := { s.looper with state := .regulating, liftTimer := none, settleTimer := none, integrator := 0 } }.raise
    .handoffDone s.looper.served 0

/-- The rise is complete: phase SETTLE, or REGULATING at once where the settle time is 0 (R130). -/
def State.riseComplete (c : ConfigRecord) (s : State) : State :=
  if c.settleTime = 0 then s.regulate
  else
    { s with looper := { s.looper with
      state := .lifting .settle, liftTimer := none, settleTimer := some c.settleTime.toNat } }

/-! ### The tension integrator (R132) -/

/-- The band about the tension reference, floor(T_ref × tension band / 1000). -/
def tensionBandOf (c : ConfigRecord) (ref : Half) : Nat := ref.toNat * c.tensionBand.toNat / 1000

/-- The magnitude of the deviation of a tension from the reference. -/
def deviation (tension ref : Half) : Nat := ((tension.toNat : Int) - (ref.toNat : Int)).natAbs

/-- The tension integrator takes a sample in REGULATING; an addition that brings it to the limit makes the TENSION fault. -/
def State.policeTension (c : ConfigRecord) (ref tension : Half) (s : State) : State :=
  if tensionBandOf c ref < deviation tension ref then
    let sum := min c.tensionLimit.toNat (s.looper.integrator + 16)
    if sum = c.tensionLimit.toNat then
      ((s.raise .tensionFault s.looper.served tension).setFlag .tension).looperFault c .tension
    else { s with looper := { s.looper with integrator := sum } }
  else { s with looper := { s.looper with integrator := s.looper.integrator - 1 } }

/-! ### Lowering (R133 to R135) -/

/-- LIFTING or REGULATING ends in LOWERING, and the trim calculator is told (R133, R154); no other state is moved. -/
def State.lowerLooper (c : ConfigRecord) (s : State) : State :=
  match s.looper.state with
  | .lifting _ | .regulating =>
    { s with looper := { s.looper with
      state := .lowering, liftTimer := none, settleTimer := none, lowerTimer := some c.lowerTime.toNat,
      integrator := 0 } }.rampOut
  | .parked | .armed | .lowering | .holdOff => s

/-- The own load-off of the in-stand entry: an ARMED looper parks (R127), a LIFTING or REGULATING one lowers (R133). -/
def State.looperLoadOff (c : ConfigRecord) (s : State) : State :=
  match s.looper.state with
  | .armed => { s with looper := { s.looper with state := .parked } }
  | .lifting _ | .regulating => s.lowerLooper c
  | .parked | .lowering | .holdOff => s

/-- The lowering completes: the next state by the pending flags and the in-stand entry as it stands, and the flags cleared
(R135). -/
def State.lowerComplete (c : ConfigRecord) (s : State) : State :=
  let done := { s.looper with lowerTimer := none, armPending := false, liftPending := false }
  let park := { s with looper := { done with state := .parked } }
  match s.inStand? with
  | some e =>
    if s.looper.liftPending = true ∧ e.downstream = .confirmed then
      { s with looper := done.lift c e.tag }.raise .lateLift e.tag 0
    else if s.looper.armPending = true ∧ e.downstream.awaiting = true then { s with looper := done.arm e.tag }
    else park
  | none => park

/-! ### Samples (R130, R132, R134) -/

/-- The looper sequencer takes a sample's angle and tension. -/
def State.looperSample (c : ConfigRecord) (x : Sample) (s : State) : State :=
  if s.hasLooper c then
    match s.looper.state with
    | .lifting .rise => if c.workingAngle.toNat ≤ x.angle.toNat then s.riseComplete c else s
    | .regulating =>
      match s.inStand?.bind Entry.tensionRef with
      | some ref => s.policeTension c ref x.tension
      | none => s
    | .lowering => if x.angle.toNat ≤ c.parkAngle.toNat then s.lowerComplete c else s
    | .parked | .armed | .lifting .settle | .holdOff => s
  else s

/-- The looper is told that the sample-loss condition has been set (R137). -/
def State.looperSampleLoss (c : ConfigRecord) (s : State) : State :=
  match s.looper.state with
  | .lifting _ | .regulating | .lowering => s.looperFault c .sampleLoss
  | .parked | .armed | .holdOff => s

/-- The looper leaves HOLD_OFF for PARKED (R139). -/
def Looper.leaveHoldOff (l : Looper) : Looper := { l with state := .parked, holdOffTimer := none }

end Sys2Proof.Machine
end

