-- ==== Sys2Proof/Machine/Travel.lean ====
section
/-! DEFINITION. The travel unit (Chapter 6): the head and tail marks, which marks a position reaches and in what order they are
reported, and what each report does (Table 6.3). -/

namespace Sys2Proof.Machine

/-! ### Computing marks (R104 to R111) -/

/-- A quotient rounded up: the truncated quotient of a + b − 1 by b (R111). -/
def ceilDiv (a b : Nat) : Nat := (a + b - 1) / b

/-- The half-width of a window: ceil(P × T / 1000), never less than 4 (R105, R109). -/
def halfWidth (p t : Nat) : Nat := max 4 (ceilDiv (p * t) 1000)

/-- P_exp, the expected head travel (R104). -/
def expectedHead (lDn upp sOwn : Nat) : Nat := ceilDiv (lDn * 10 ^ 9) (upp * (1000 + sOwn))

/-- P_tail, the expected tail travel (R108). -/
def expectedTail (lUp hUp hOwn upp sOwn : Nat) : Nat := ceilDiv (lUp * 10 ^ 9 * hUp) (upp * (1000 + sOwn) * hOwn)

/-- The head marks for an own forward slip (R104 to R106), unreached. -/
def headMarksOf (c : ConfigRecord) (sOwn : Nat) : HeadMarks :=
  let p := expectedHead c.lDn.toNat c.upp.toNat sOwn
  let w := halfWidth p c.windowTolerance.toNat
  { armPoint := p - w - c.armLead.toNat, windowLow := p - w, windowHigh := p + w,
    armReached := false, lowReached := false, expiryReached := false }

/-- The tail marks for an upstream and an own thickness and an own forward slip (R108, R109), unreached. -/
def tailMarksOf (c : ConfigRecord) (hUp hOwn sOwn : Nat) : TailMarks :=
  let p := expectedTail c.lUp.toNat hUp hOwn c.upp.toNat sOwn
  let w := halfWidth p c.windowTolerance.toNat
  { lowering := p - c.tailLead.toNat, tailLow := p - w, tailHigh := p + w, loweringReached := false, overdueReached := false }

/-- The head marks of an entry at this station; none without a pass window (R107). -/
def Entry.headMarksAt (c : ConfigRecord) (position : BitVec 4) (e : Entry) : Option HeadMarks :=
  (e.sOwn position).map (headMarksOf c)

/-- The tail marks of an entry at this station: at STAND roles, with a pass window, and with a tail stamp that may be counted from
(R110, R121). -/
def Entry.tailMarksAt (c : ConfigRecord) (position : BitVec 4) (e : Entry) : Option TailMarks :=
  if roleOf position = .stand ∧ e.tailStamp.any (fun t => !t.void) then
    match e.hUp position, e.ownPass with
    | some hUp, some own => some (tailMarksOf c hUp own.exitThickness.toNat own.forwardSlip.toNat)
    | _, _ => none
  else none

/-! ### Reaching marks (R12, R13, R112) -/

/-- The five marks and points that are reported, in the order of Table 6.3. -/
inductive Mark where
  | armPoint | windowLow | expiry | lowering | overdue
  deriving DecidableEq, Repr

/-- The head marks not yet reached whose value this distance equals or exceeds; the expiry point is window high + 1. -/
def HeadMarks.due (d : Nat) (h : HeadMarks) : List (Nat × Mark) :=
  (if !h.armReached && h.armPoint ≤ d then [(h.armPoint, .armPoint)] else []) ++
  (if !h.lowReached && h.windowLow ≤ d then [(h.windowLow, .windowLow)] else []) ++
  (if !h.expiryReached && h.windowHigh + 1 ≤ d then [(h.windowHigh + 1, .expiry)] else [])

/-- The tail marks not yet reached whose value this distance equals or exceeds; the overdue point is tail high + 1. -/
def TailMarks.due (d : Nat) (t : TailMarks) : List (Nat × Mark) :=
  (if !t.loweringReached && t.lowering ≤ d then [(t.lowering, .lowering)] else []) ++
  (if !t.overdueReached && t.tailHigh + 1 ≤ d then [(t.tailHigh + 1, .overdue)] else [])

/-- The head marks of an entry that a pulse position reaches. -/
def Entry.headDue (pulse : Word) (e : Entry) : List (Nat × Mark) :=
  match e.headMarks, e.biteStamp with
  | some h, some stamp => h.due (distance pulse stamp)
  | _, _ => []

/-- The tail marks of an entry that a pulse position reaches. -/
def Entry.tailDue (pulse : Word) (e : Entry) : List (Nat × Mark) :=
  match e.tailMarks, e.tailStamp with
  | some t, some stamp => t.due (distance pulse stamp.position)
  | _, _ => []

/-- A mark placed among marks in ascending order of value, before those of an equal value. -/
def insertMark (m : Nat × Mark) : List (Nat × Mark) → List (Nat × Mark)
  | [] => [m]
  | x :: xs => if m.1 ≤ x.1 then m :: x :: xs else x :: insertMark m xs

/-- Marks in the order they are reported: ascending values, equal values in the order of Table 6.3 (R13, R112). -/
def inReportOrder (ms : List (Nat × Mark)) : List Mark := (ms.foldr insertMark []).map Prod.snd

/-- An entry with a mark's indication reached. This writes no field of the entry and refreshes no age (R103). -/
def Entry.reach (m : Mark) (e : Entry) : Entry :=
  match m with
  | .armPoint => { e with headMarks := e.headMarks.map fun h => { h with armReached := true } }
  | .windowLow => { e with headMarks := e.headMarks.map fun h => { h with lowReached := true } }
  | .expiry => { e with headMarks := e.headMarks.map fun h => { h with expiryReached := true } }
  | .lowering => { e with tailMarks := e.tailMarks.map fun t => { t with loweringReached := true } }
  | .overdue => { e with tailMarks := e.tailMarks.map fun t => { t with overdueReached := true } }

/-! ### What a report does (R77, R117, R118) -/

/-- The window of the entry at a slot has expired (R77): an OPEN entry becomes UNCONFIRMED where it carries downstream-gap, with
HEAD_UNCONFIRMED, and the looper is told of the in-stand entry's (R127); otherwise it becomes LOST, with the fault of R114. -/
def State.windowExpired (c : ConfigRecord) (slot : Nat) (e : Entry) (s : State) : State :=
  if e.downstream = .inWindow then
    if e.flags.downstreamGap then
      let s := (s.writeEntry slot fun e => { e with downstream := .unconfirmed }).raise .headUnconfirmed e.tag 0
      if e.isInStand then s.looperUnconfirmed else s
    else (s.writeEntry slot fun e => { e with downstream := .lost }).headLost c e.tag e.isInStand
  else s

/-- One mark of the entry at a slot is reported (Table 6.3). An entry that has left the table meanwhile reports nothing (R82). -/
def State.reportMark (c : ConfigRecord) (slot : Nat) (m : Mark) (s : State) : State :=
  match s.table[slot]? with
  | none => s
  | some e =>
    let s := { s with table := s.table.modify slot (Entry.reach m) }
    match m with
    | .armPoint => if e.isInStand then s.looperArmPoint c e else s
    | .windowLow =>
      if e.downstream = .pending then s.writeEntry slot fun e => { e with downstream := .inWindow } else s
    | .expiry => s.windowExpired c slot e
    | .lowering => if e.isInStand then (s.lowerLooper c).rampOut else s
    | .overdue => if e.isInStand then s.raise .tailOverdue e.tag (s.detector.state.code.setWidth 16) else s

/-- Marks of the entry at a slot are reported one after the other (R13). -/
def State.reportMarks (c : ConfigRecord) (slot : Nat) (ms : List Mark) (s : State) : State :=
  ms.foldl (fun s m => s.reportMark c slot m) s

/-- The marks of the entry at a slot that the current pulse position reaches are reported. -/
def State.evaluateEntry (c : ConfigRecord) (s : State) (slot : Nat) : State :=
  match s.table[slot]? with
  | none => s
  | some e => s.reportMarks c slot (inReportOrder (e.headDue s.stand.pulse ++ e.tailDue s.stand.pulse))

/-- The travel unit evaluates the marks of every entry (R112); different entries are taken oldest first (R113, log 8). -/
def State.evaluateMarks (c : ConfigRecord) (s : State) : State :=
  (List.range tableRoom).foldl (fun s slot => s.evaluateEntry c slot) s

end Sys2Proof.Machine
end

