-- ==== Sys2Proof/Machine/Tracking.lean ====
section
/-! DEFINITION. The tracking engine (Chapter 4): what it does with piece, bite and tail telegrams, gap notices, the load
detector's bites, tail-outs and verification results, and the encoder fault. The meanings of the commands call these
operations. -/

namespace Sys2Proof.Machine

/-! ### Piece telegrams (R4, R63, R79) -/

/-- A PIECE_ENTRY telegram is taken (R4, R60, R63). -/
def State.takePieceEntry (c : ConfigRecord) (src : Fin 10) (r : PieceRecord) (s : State) : State :=
  if src ≠ 0 then (s.refreshTag r.tag).unexpected 2 src .notEntry r.tag
  else
    match checkRecord c.n r with
    | some f => s.refusePiece r.tag (.malformed f)
    | none =>
      let e := newEntry c s.station.position .bus r
      match s.createEntry e with
      | .error .duplicate => (s.refreshTag r.tag).refusePiece r.tag .duplicate
      | .error why => s.refusePiece r.tag why
      | .ok s' => s'.raiseAdded e

/-- A PIECE_WITHDRAW telegram is taken (R79). -/
def State.takePieceWithdraw (src : Fin 10) (tag : Half) (s : State) : State :=
  if src ≠ 0 then (s.refreshTag tag).unexpected 3 src .notEntry tag
  else
    match s.slotOfTag tag with
    | none => s.unexpected 3 src .unknownTag tag
    | some slot =>
      match s.table[slot]? with
      | none => s
      | some e =>
        if e.phase = .announced then s.withdrawEntry slot e .withdraw
        else (s.refreshTag tag).unexpected 3 src .wrongPhase tag

/-! ### Upstream telegrams (R66 to R68) -/

/-- A HEAD_BITE from the upstream neighbour with tag t (R66). -/
def State.takeUpstreamBite (src : Fin 10) (tag : Half) (s : State) : State :=
  match s.slotOfTag tag with
  | none => s.unexpected 4 src .unknownTag tag
  | some slot =>
    match s.table[slot]? with
    | none => s
    | some e =>
      if e.phase = .announced then
        let s := s.passOver slot
        match s.slotOfTag tag with
        | some slot => s.writeEntry slot (Entry.advance .approaching)
        | none => s
      else (s.refreshTag tag).unexpected 4 src .wrongPhase tag

/-- The tail stamp that the current pulse position makes; one taken while the encoder-stall condition stands is void (R121). -/
def State.newTailStamp (s : State) : TailStamp := { position := s.stand.pulse, void := s.stand.encoderStall }

/-- The in-stand entry takes the upstream TAIL_OUT (R67): its phase, its tail stamp, and its tail marks, none while the encoder-stall
condition stands (R120). At the EXIT station the phase change alone is made: no tail stamp is set there (log 27). -/
def State.withUpstreamTail (c : ConfigRecord) (s : State) (e : Entry) : Entry :=
  let e := e.advance .tailApproaching
  if s.role = .exit then e
  else
    let stamp := s.newTailStamp
    let e := { e with tailStamp := some stamp }
    { e with tailMarks := if stamp.void then none else e.tailMarksAt c s.station.position }

/-- The in-stand entry at a slot takes the upstream TAIL_OUT, and marks reached at once are reported (R67). -/
def State.tailApproaches (c : ConfigRecord) (slot : Nat) (s : State) : State :=
  let s := s.writeEntry slot (s.withUpstreamTail c)
  match s.table[slot]? with
  | none => s
  | some e => s.reportMarks c slot (inReportOrder (e.tailDue s.stand.pulse))

/-- An entry that has not reached the stand takes the upstream TAIL_OUT: APPROACHING, tail-seen, the tail stamp set (R68). -/
def State.tailSeenAt (slot : Nat) (s : State) : State :=
  let stamp := s.newTailStamp
  s.writeEntry slot fun e =>
    { e.advance .approaching with flags := { e.flags with tailSeen := true }, tailStamp := some stamp }

/-- An upstream TAIL_OUT that the in-stand entry does not take, its tag naming the entry at a slot (R67, R68). -/
def State.takeNamedTail (src : Fin 10) (tag : Half) (slot : Nat) (e : Entry) (s : State) : State :=
  match e.phase with
  | .approaching =>
    if e.flags.tailSeen then (s.refreshTag tag).unexpected 5 src .wrongPhase tag else s.tailSeenAt slot
  | .announced =>
    let s := s.passOver slot
    match s.slotOfTag tag with
    | some slot => (s.tailSeenAt slot).unexpected 5 src .headNotSeen tag
    | none => s
  | .inStand | .tailApproaching | .cleared => (s.refreshTag tag).unexpected 5 src .wrongPhase tag

/-- An upstream TAIL_OUT of tag 0 or of an unknown tag that the in-stand entry does not take (R68). -/
def State.takeUnnamedTail (src : Fin 10) (tag : Half) (s : State) : State :=
  match s.oldest fun e => e.phase = .approaching with
  | none => s.unexpected 5 src .noCandidate tag
  | some slot =>
    match s.table[slot]? with
    | none => s
    | some e =>
      if e.flags.tailSeen then (s.writeEntry slot id).unexpected 5 src .wrongPhase tag
      else (s.tailSeenAt slot).unexpected 5 src .order tag

/-- The slot of the entry that is IN_STAND and takes an upstream TAIL_OUT of tag t: its tag is t, or t is 0 or unknown (R67). -/
def State.tailTaker (tag : Half) (s : State) : Option Nat :=
  match s.inStandSlot with
  | none => none
  | some slot =>
    match s.table[slot]? with
    | none => none
    | some e => if e.phase = .inStand ∧ (e.tag = tag ∨ (s.slotOfTag tag).isNone) then some slot else none

/-- A TAIL_OUT from the upstream neighbour with tag t (R67, R68). -/
def State.takeUpstreamTail (c : ConfigRecord) (src : Fin 10) (tag : Half) (s : State) : State :=
  match s.tailTaker tag with
  | some slot =>
    let unknown := (s.slotOfTag tag).isNone
    let s := s.tailApproaches c slot
    if unknown then s.unexpected 5 src .order tag else s
  | none =>
    match s.slotOfTag tag with
    | some slot =>
      match s.table[slot]? with
      | none => s
      | some e => s.takeNamedTail src tag slot e
    | none => s.takeUnnamedTail src tag

/-! ### Downstream telegrams (R73 to R76) -/

/-- The entry at a slot, matched to a downstream HEAD_BITE of tag t, becomes CONFIRMED (R74). BITE_TOO_LATE with ACCEPTED carries the
entry's tag, as HEAD_EARLY does (DESIGN CHOICE, log 23). -/
def State.confirmEntry (c : ConfigRecord) (slot : Nat) (e : Entry) (tag speed : Half) (s : State) : State :=
  let mismatch := e.tag ≠ 0 ∧ tag ≠ 0 ∧ e.tag ≠ tag
  let s := s.writeEntry slot fun e =>
    { e with downstream := .confirmed, headMarks := none,
             flags := { e.flags with tagMismatch := e.flags.tagMismatch || decide mismatch } }
  let s := if mismatch then s.raise .tagMismatch e.tag tag else s
  let s :=
    match e.downstream with
    | .pending =>
      s.raise .headEarly e.tag (sat16 (match e.biteStamp with | some p => distance s.stand.pulse p | none => 0))
    | .unconfirmed => s.raise .biteTooLate e.tag 1
    | .noHead | .inWindow | .untimed | .confirmed | .lost => s
  if e.isInStand then
    match s.table[slot]? with
    | none => s
    | some e => (s.looperConfirmed c e).trimConfirmed c e speed
  else s

/-- A downstream HEAD_BITE matched by order: the oldest entry with an awaiting status (R73). -/
def State.takeBiteByOrder (c : ConfigRecord) (src : Fin 10) (tag speed : Half) (s : State) : State :=
  match s.oldest fun e => e.downstream.awaiting with
  | none => s.unexpected 4 src .noCandidate tag
  | some slot =>
    match s.table[slot]? with
    | none => s
    | some e => s.confirmEntry c slot e tag speed

/-- A HEAD_BITE from the downstream neighbour with tag t (R73). -/
def State.takeDownstreamBite (c : ConfigRecord) (src : Fin 10) (tag speed : Half) (s : State) : State :=
  match s.slotOfTag tag with
  | none => s.takeBiteByOrder c src tag speed
  | some slot =>
    match s.table[slot]? with
    | none => s
    | some e =>
      match e.downstream with
      | .pending | .inWindow | .untimed | .unconfirmed => s.confirmEntry c slot e tag speed
      | .lost => (s.refreshTag tag).raise .biteTooLate tag 0
      | .confirmed => (s.refreshTag tag).unexpected 4 src .wrongPhase tag
      | .noHead => (s.refreshTag tag).takeBiteByOrder c src tag speed

/-- The entry at a slot is retired (R72, R75). -/
def State.retireEntry (slot : Nat) (e : Entry) (s : State) : State :=
  (s.removeEntry slot).raise .pieceRetired e.tag (e.downstream.code.setWidth 16)

/-- A TAIL_OUT from the downstream neighbour with tag t (R75). -/
def State.takeDownstreamTail (src : Fin 10) (tag : Half) (s : State) : State :=
  match s.slotOfTag tag with
  | some slot =>
    match s.table[slot]? with
    | none => s
    | some e =>
      if e.phase = .cleared then s.retireEntry slot e else (s.refreshTag tag).unexpected 5 src .wrongPhase tag
  | none =>
    match s.oldest fun e => e.phase = .cleared with
    | none => s.unexpected 5 src .noCandidate tag
    | some slot =>
      match s.table[slot]? with
      | none => s
      | some e => s.retireEntry slot e

/-- A HEAD_BITE telegram, sorted by its source (Table 4.3); an anonymous one is taken with tag 0 (R62). -/
def State.takeHeadBite (c : ConfigRecord) (src : Fin 10) (tag : Half) (anonymous : Bool) (speed : Half) (s : State) : State :=
  let tag := if anonymous then 0 else tag
  if s.isUpstream src then s.takeUpstreamBite src tag
  else if s.isDownstream src then s.takeDownstreamBite c src tag speed
  else s

/-- A TAIL_OUT telegram, sorted by its source (Table 4.3); an anonymous one is taken with tag 0 (R62). -/
def State.takeTailOut (c : ConfigRecord) (src : Fin 10) (tag : Half) (anonymous : Bool) (s : State) : State :=
  let tag := if anonymous then 0 else tag
  if s.isUpstream src then s.takeUpstreamTail c src tag
  else if s.isDownstream src then s.takeDownstreamTail src tag
  else s

/-- The entry takes downstream-gap where it is PENDING or OPEN (R76); a flag newly set refreshes it (R58). -/
def Entry.markGap (e : Entry) : Entry :=
  if (e.downstream = .pending ∨ e.downstream = .inWindow) ∧ e.flags.downstreamGap = false then
    { e with flags := { e.flags with downstreamGap := true }, age := 0 }
  else e

/-- A gap notice reaches the tracking engine (R62, R76). -/
def State.takeGapNotice (src : Fin 10) (s : State) : State :=
  if s.station.state = .running ∧ s.isDownstream src then { s with table := s.table.map Entry.markGap } else s

/-! ### The own stand (R69 to R72) -/

/-- A confirmed bite as the load detector reports it (R97). -/
structure BiteReport where
  stamp : Word
  force : Half
  speed : Half
  byDistance : Bool
  deriving DecidableEq, Repr

/-- The downstream status at the own bite (Table 4.4); UNTIMED for PENDING while the encoder-stall condition stands (R120). -/
def State.statusAtBite (c : ConfigRecord) (e : Entry) (s : State) : Downstream :=
  if hasBiteWindow c s.station.position then
    if e.window.isSome ∧ s.stand.encoderStall = false then .pending else .untimed
  else .noHead

/-- A verification is begun at a STAND role for a bite confirmed by distance whose own pass has an expected force (R100). -/
def State.beginVerification (c : ConfigRecord) (e : Entry) (b : BiteReport) (s : State) : State :=
  match e.expectedForce with
  | some force =>
    if s.role = .stand ∧ b.byDistance then
      let half := force * c.forceTolerance.toNat / 1000
      { s with detector := { s.detector with verify := .awaiting b.force (force - half) (force + half) b.stamp } }
    else s
  | none => s

/-- The marks of the entry at a slot are computed at its own bite and those already passed are reported as one set (R70, R107,
R110, R112, R120). -/
def State.marksAtBite (c : ConfigRecord) (slot : Nat) (s : State) : State :=
  let position := s.station.position
  let stalled := s.stand.encoderStall
  let s := s.writeEntry slot fun e =>
    { e with
      headMarks := if e.downstream = .pending then e.headMarksAt c position else e.headMarks
      tailMarks := if e.flags.tailSeen ∧ stalled = false then e.tailMarksAt c position else e.tailMarks }
  s.evaluateEntry c slot

/-- The entry at a slot takes the own bite (R70). `candidate` is 0 for the oldest APPROACHING entry, 1 for the oldest ANNOUNCED
one, 2 for a new anonymous one (R183). -/
def State.biteEntry (c : ConfigRecord) (slot : Nat) (e : Entry) (candidate : Half) (b : BiteReport) (s : State) : State :=
  let status := s.statusAtBite c e
  let s := s.writeEntry slot fun e =>
    { e.advance (if e.flags.tailSeen then .tailApproaching else .inStand) with
      biteStamp := some b.stamp, downstream := status }
  let s := s.queueTelegram (.headBite e.tag (e.origin == .anonymous) b.speed)
  let s := s.raise .ownBite e.tag candidate
  let s := if s.role = .stand then { s with trim := { s.trim with reportTimer := some c.reportPeriod.toNat } } else s
  let s := s.beginVerification c e b
  s.marksAtBite c slot

/-- A confirmed bite is taken (R69): by the oldest APPROACHING entry, else by the oldest ANNOUNCED one, else by a new anonymous
entry. -/
def State.takeBite (c : ConfigRecord) (b : BiteReport) (s : State) : State :=
  match s.oldest fun e => e.phase = .approaching with
  | some slot =>
    match s.table[slot]? with
    | none => s
    | some e => s.biteEntry c slot e 0 b
  | none =>
    match s.oldest fun e => e.phase = .announced with
    | some slot =>
      match s.table[slot]? with
      | none => s
      | some e =>
        let s := if s.role = .entry then s else s.raise .upstreamNotSeen e.tag 0
        s.biteEntry c slot e 1 b
    | none =>
      match s.createEntry anonymousEntry with
      | .error why => s.refusePiece 0 why
      | .ok s =>
        let slot := s.table.length - 1
        let s := s.raise .anonymousPiece 0 (BitVec.ofNat 16 slot)
        s.biteEntry c slot anonymousEntry 2 b

/-- The tail distance at a load-off that is below tail low, where the entry has tail marks (R72, R119). -/
def Entry.earlyTail (p1 : Word) (e : Entry) : Option Nat :=
  match e.tailMarks, e.tailStamp with
  | some t, some stamp =>
    let d := distance p1 stamp.position
    if d < t.tailLow then some d else none
  | _, _ => none

/-- A confirmed tail-out is taken for the in-stand entry (R72), with the off stamp p1. -/
def State.takeTail (c : ConfigRecord) (p1 : Word) (s : State) : State :=
  match s.inStandSlot with
  | none => s
  | some slot =>
    match s.table[slot]? with
    | none => s
    | some e =>
      let early := e.earlyTail p1
      let s :=
        if hasBiteWindow c s.station.position then
          s.writeEntry slot fun e => { e.advance .cleared with tailMarks := none }
        else s.retireEntry slot e
      let s := s.queueTelegram (.tailOut e.tag (e.origin == .anonymous))
      let s :=
        match early with
        | some d => s.raise .tailEarly e.tag (sat16 d)
        | none => s.raise .ownTailOut e.tag 0
      let s := s.looperLoadOff c
      { s with trim := s.trim.toOff }

/-- A verification result is written into the in-stand entry (R71); a SUSPECT one raises BITE_SUSPECT, with bit 0 for the first
sample and bit 1 for the second, and the trim calculator is told (R154). -/
def State.takeVerification (firstOut secondOut : Bool) (s : State) : State :=
  match s.inStand?, s.inStandSlot with
  | some e, some slot =>
    if firstOut || secondOut then
      let s := s.writeEntry slot fun e => { e with verification := .suspect }
      let s := s.raise .biteSuspect e.tag (BitVec.ofNat 16 (firstOut.toNat + 2 * secondOut.toNat))
      s.rampOut
    else s.writeEntry slot fun e => { e with verification := .verified }
  | _, _ => s

/-! ### The encoder fault (R78, R121) -/

/-- What an encoder fault does to an entry: its marks go, PENDING and OPEN become UNTIMED, its tail stamp becomes void. A void
indication alone writes no field (R103). -/
def Entry.encoderFault (e : Entry) : Entry :=
  let status := if e.downstream = .pending ∨ e.downstream = .inWindow then .untimed else e.downstream
  let written := e.headMarks.isSome || e.tailMarks.isSome || status != e.downstream
  { e with downstream := status, headMarks := none, tailMarks := none,
           tailStamp := e.tailStamp.map fun t => { t with void := true }, age := if written then 0 else e.age }

end Sys2Proof.Machine
end

