-- ==== Sys2Proof/Machine/LoadDetector.lean ====
section
/-! DEFINITION. The load detector (Sections 5.5 and 5.6): the load value of a sample, the four detector states, and the
verification of a bite. The meaning of SAMPLE_RECORD calls these operations. -/

namespace Sys2Proof.Machine

/-- The load of a sample is at or above a threshold: the roll force at STAND roles, the detector bit at ENTRY and EXIT (R95). -/
def State.loadAtLeast (threshold : Half) (x : Sample) (s : State) : Bool :=
  if s.role = .stand then threshold.toNat ≤ x.force.toNat else x.detector

/-- The samples that confirm a pending bite or tail-out while the encoder-stall condition stands (R97, R98). -/
def stallCount : Nat := 4

/-- The detector in another state. -/
def State.withDetector (d : DetectorState) (s : State) : State := { s with detector := { s.detector with state := d } }

/-- A bite is confirmed: LOADED, and in RUNNING the tracking engine takes it (R97, R99). -/
def State.confirmBite (c : ConfigRecord) (b : BiteReport) (s : State) : State :=
  let s := s.withDetector .loaded
  if s.station.state = .running then s.takeBite c b else s

/-- A tail-out is confirmed: UNLOADED, a verification in progress abandoned, and in RUNNING the tracking engine takes it (R98, R99,
R101). -/
def State.confirmTail (c : ConfigRecord) (p1 : Word) (s : State) : State :=
  let s := { s with detector := { state := .unloaded, verify := .idle } }
  if s.station.state = .running then s.takeTail c p1 else s

/-- One sample evaluated by the detector (R97, R98). A sample of a stall that is both at the distance and the fourth is reported as
confirmed by distance (DESIGN CHOICE, log 24). -/
def State.detect (c : ConfigRecord) (x : Sample) (s : State) : State :=
  let here := s.stand.pulse
  match s.detector.state with
  | .unloaded => if s.loadAtLeast c.fOn x then s.withDetector (.onPending here 1) else s
  | .onPending p0 count =>
    if s.loadAtLeast c.fOn x then
      if c.nOn.toNat ≤ distance here p0 then
        s.confirmBite c { stamp := p0, force := x.force, speed := x.speed, byDistance := true }
      else if s.stand.encoderStall = true ∧ stallCount ≤ count + 1 then
        s.confirmBite c { stamp := p0, force := x.force, speed := x.speed, byDistance := false }
      else s.withDetector (.onPending p0 (count + 1))
    else s.withDetector .unloaded
  | .loaded => if s.loadAtLeast c.fOff x then s else s.withDetector (.offPending here 1)
  | .offPending p1 count =>
    if s.loadAtLeast c.fOff x then s.withDetector .loaded
    else if c.nOff.toNat ≤ distance here p1 ∨ (s.stand.encoderStall = true ∧ stallCount ≤ count + 1) then s.confirmTail c p1
    else s.withDetector (.offPending p1 (count + 1))

/-- A force lies outside the band, both ends of which are in it (R100, R101). -/
def outsideBand (low high : Nat) (force : Half) : Bool := !within force.toNat low high

/-- The verification takes a sample: the first one whose distance from p0 is at least 2 × N_on is the second sample (R101). -/
def State.verifySample (c : ConfigRecord) (x : Sample) (s : State) : State :=
  match s.detector.verify with
  | .idle => s
  | .awaiting first low high stamp =>
    if 2 * c.nOn.toNat ≤ distance s.stand.pulse stamp then
      { s with detector := { s.detector with verify := .idle } }.takeVerification (outsideBand low high first)
        (outsideBand low high x.force)
    else s

/-- The load detector takes a sample, in RUNNING and STOPPED (R96): the verification in progress, then the detector state
(log 11). -/
def State.detectorSample (c : ConfigRecord) (x : Sample) (s : State) : State :=
  if s.station.state = .running ∨ s.station.state = .stopped then (s.verifySample c x).detect c x else s

end Sys2Proof.Machine
end

