-- ==== Sys2Proof/Machine/StandLink.lean ====
section
/-! DEFINITION. The stand link family: the meanings of ENCODER_PULSE, BOTH_CHANNELS_CHANGE and SAMPLE_RECORD (Sections 5.1 and
5.2). -/

namespace Sys2Proof.Machine

/-! ### The encoder (R86, R94) -/

/-- The encoder state of the two channels (Table 5.1). -/
def encoderState : Bool → Bool → Nat
  | false, false => 0
  | true, false => 1
  | true, true => 2
  | false, true => 3

/-- A change follows the forward cycle of Table 5.1. -/
def isForward (before after : Nat) : Bool := after == (before + 1) % 4

/-- The pulse position after one pulse (R10). -/
def countPulse (forward : Bool) (p : Word) : Word := if forward then p + 1 else p - 1

/-- The channels after one of them has changed. -/
def changedChannels (ch : Channel) (a b : Bool) : Bool × Bool :=
  match ch with
  | .a => (!a, b)
  | .b => (a, !b)

/-- The stall timer after a pulse: restarted where it runs (R93). -/
def State.stallRestarted (s : State) : Timer :=
  match s.station.config with
  | some c => s.stand.stallTimer.restart c.encoderStall.toNat
  | none => s.stand.stallTimer

/-- The encoder-stall condition ends at a pulse, with ENCODER_RESUMED (R94). Its detail is the time since the pulse before; where
none came before, the spec states none: a free value (log 7). -/
def State.encoderResumes (s : State) : State :=
  let resumed := { s with stand := { s.stand with encoderStall := false } }
  match s.stand.sincePulse with
  | some ms => resumed.raise .encoderResumed 0 (sat16 ms)
  | none => { resumed.raise .encoderResumed 0 (Config.freeValue s.freeCount) with freeCount := s.freeCount + 1 }

/-- A pulse: the position counts, the stall timer restarts, a standing stall ends, the travel unit evaluates all marks (R86, R93,
R94, R112). -/
def State.takePulse (ch : Channel) (s : State) : State :=
  let (a, b) := changedChannels ch s.stand.encA s.stand.encB
  let forward := isForward (encoderState s.stand.encA s.stand.encB) (encoderState a b)
  let s := if s.stand.encoderStall then s.encoderResumes else s
  let s := { s with stand := { s.stand with
    encA := a, encB := b, pulse := countPulse forward s.stand.pulse, stallTimer := s.stallRestarted, sincePulse := some 0 } }
  match s.station.config with
  | some c => s.evaluateMarks c
  | none => s

/-- ENCODER_PULSE (R86): one channel changes. -/
def execEncoderPulse (ch : Channel) (s : State) : Host.Outcome State Fault Refusal := .next (s.takePulse ch)

/-- BOTH_CHANNELS_CHANGE (R86): no pulse; the next change is decoded from the new encoder state. -/
def execBothChannelsChange (s : State) : Host.Outcome State Fault Refusal :=
  .next { s with stand := { s.stand with encA := !s.stand.encA, encB := !s.stand.encB } }

/-! ### Samples (R87 to R92) -/

/-- The samples the drive numbered and this station did not take, between the last one and this one (R88). -/
def missedSamples (expect : Option Byte) (seq : Byte) : Nat :=
  match expect with
  | none => 0
  | some last => if seq = last then 0 else (seq - last - 1).toNat

/-- The sample timeout after a sample: restarted where it runs (R89). -/
def State.sampleRestarted (s : State) : Timer :=
  match s.station.config with
  | some c => s.stand.sampleTimer.restart c.sampleTimeout.toNat
  | none => s.stand.sampleTimer

/-- The sample-loss condition ends at a sample, with SAMPLE_RESUMED and the time for which samples were missing (R92). -/
def State.samplesResume (s : State) : State :=
  { s with stand := { s.stand with sampleLoss := false } }.raise .sampleResumed 0 (sat16 s.stand.sinceSample)

/-- The stand interface takes a sample in: the latest sample, the expectation, SAMPLE_GAPS, the timeout (R88, R89). -/
def State.storeSample (x : Sample) (s : State) : State :=
  { s with stand := { s.stand with
    latest := some x
    expect := some x.seq
    sampleGaps := satAdd s.stand.sampleGaps (missedSamples s.stand.expect x.seq)
    sampleTimer := s.sampleRestarted
    lastSeq := some x.seq
    sinceSample := 0 } }

/-- The tension reference a command record carries: T_ref of the in-stand entry's own pass in REGULATING, else 0 (R125). -/
def State.tensionSent (s : State) : Half :=
  if s.looper.state = .regulating then (s.inStand?.bind Entry.tensionRef).getD 0 else 0

/-- The station drives a looper and trims, in RUNNING or STOPPED: only then does a command record carry anything but PARK, 0 and 0
(R90). -/
def State.commands (s : State) : Bool :=
  (s.station.state == .running || s.station.state == .stopped) && s.station.config.any fun c => s.hasLooper c

/-- The command record that answers a sample (R90, R125). -/
def State.commandRecord (seq : Byte) (s : State) : CommandRecord :=
  if s.commands then
    { seq := seq, looper := s.looper.state.command, tension := s.tensionSent, trim := s.trim.current,
      station := s.station.state }
  else { seq := seq, looper := .park, tension := 0, trim := 0, station := s.station.state }

/-- The command record is composed and sent (R89, R90). -/
def State.answer (seq : Byte) (s : State) : State :=
  { s with stand := { s.stand with sent := some (s.commandRecord seq) } }

/-- The bits that the latest command record puts on SLINK_OUT; none where none has been sent (R90, R180). -/
def State.linkBits (s : State) : Option (List Bool) := s.stand.sent.map CommandRecord.bits

/-- The blocks take a sample in the order of R89: load detector (and through it the tracking engine), looper sequencer, trim
calculator. -/
def State.blocksTake (x : Sample) (s : State) : State :=
  match s.station.config with
  | some c => ((s.detectorSample c x).looperSample c x).stepTrim c
  | none => s

/-- A sample is taken and answered (R89, R92). -/
def State.takeSample (x : Sample) (s : State) : State :=
  let s := if s.stand.sampleLoss then s.samplesResume else s
  ((s.storeSample x).blocksTake x).answer x.seq

/-- SAMPLE_RECORD (R87, R89, R180): a record whose check or length is wrong is discarded and counted; any other is a sample. Bytes that
do not begin with the start byte are no record (log 28). -/
def execSampleRecord (bytes : List Byte) (s : State) : Host.Outcome State Fault Refusal :=
  if bytes.head? = some sampleStart then
    match sampleOfBytes bytes with
    | none => .next { s with stand := { s.stand with sampleErrors := satAdd s.stand.sampleErrors 1 } }
    | some x => .next (s.takeSample x)
  else .next s

end Sys2Proof.Machine
end

