-- ==== Sys2Proof/Machine/Acquisition.lean ====
section
/-! DEFINITION. Neighbour acquisition (Sections 2.5 and 2.6): the ANNOUNCE telegrams the station queues and what it does with those
it receives. -/

namespace Sys2Proof.Machine

/-- A set of positions: bit i for position i (R179). -/
def positionSet (ps : List (Fin 10)) : BitVec 10 := ps.foldl (fun acc p => acc ||| (1 : BitVec 10) <<< p.val) 0

/-- The positions of the lines that satisfy p. -/
def Station.positions (st : Station) (p : AcqLine → Bool) : List (Fin 10) := (st.lines.filter p).map AcqLine.position

/-- An ANNOUNCE of this station: its configured train fields and distances, with a linking flag and a heard set (R20, R25). -/
def ConfigRecord.announce (c : ConfigRecord) (linking : Bool) (heard : BitVec 10) : Announce :=
  { linking := linking, trainId := c.trainId, trainSize := c.trainSize.setWidth 4, exitPresent := c.hasExit,
    reportPeriod := c.reportPeriod, lUp := c.lUp, lDn := c.lDn, heard := heard }

/-- A linking ANNOUNCE is queued: its heard set lists each required neighbour that is MATCHED or ACKED now (R20). -/
def State.queueLinkingAnnounce (c : ConfigRecord) (s : State) : State :=
  s.queueTelegram (.announce (c.announce true (positionSet (s.station.positions fun l => l.state ≠ .seek))))

/-- A reply to a rejoining neighbour is queued: linking clear, every required neighbour heard (R25). -/
def State.queueReplyAnnounce (c : ConfigRecord) (s : State) : State :=
  s.queueTelegram (.announce (c.announce false (positionSet (s.station.positions fun _ => true))))

/-- Train agreement: train id, train size, exit present and report period each equal the station's own (R22). -/
def trainAgrees (c : ConfigRecord) (a : Announce) : Bool :=
  a.trainId == c.trainId && a.trainSize.toNat == c.n && a.exitPresent == c.hasExit && a.reportPeriod == c.reportPeriod

/-- Adjacency agreement: the distance between the two stations is the same at both (R22). -/
def adjacencyAgrees (c : ConfigRecord) (r : Relation) (a : Announce) : Bool :=
  match r with
  | .upstream => a.lDn == c.lUp
  | .downstream => a.lUp == c.lDn

/-- The agreeing telegrams in a row that make a neighbour MATCHED (R23). -/
def agreementsNeeded : Nat := 3

/-- The line of a position changed. -/
def State.mapLine (src : Fin 10) (f : AcqLine → AcqLine) (s : State) : State :=
  { s with station := { s.station with lines := s.station.lines.map fun l => if l.position = src then f l else l } }

/-- The station enters RUNNING from LINKING, with LINKED (R24). -/
def State.enterRunning (s : State) : State :=
  { s with station := { s.station with state := .running, announceTimer := none, linkTimer := none } }.raise .linked 0 0

/-- An agreeing ANNOUNCE is counted for a neighbour in SEEK; the third in a row makes it MATCHED, and an ANNOUNCE is queued at once
(R20, R23). -/
def State.countAgreement (c : ConfigRecord) (src : Fin 10) (l : AcqLine) (s : State) : State :=
  match l.state with
  | .seek =>
    if agreementsNeeded ≤ l.agreements + 1 then
      (s.mapLine src fun l => { l with state := .matched, agreements := l.agreements + 1 }).queueLinkingAnnounce c
    else s.mapLine src fun l => { l with agreements := l.agreements + 1 }
  | .matched | .acked => s

/-- The heard set of an agreeing ANNOUNCE from a MATCHED neighbour is examined; listing this station makes the neighbour ACKED, and
the last one ACKED takes the station into RUNNING (R24). -/
def State.examineHeard (src : Fin 10) (a : Announce) (s : State) : State :=
  match s.line? src with
  | none => s
  | some l =>
    if l.state = .matched ∧ a.heard.getLsbD s.station.position.toNat = true then
      let s := s.mapLine src fun l => { l with state := .acked }
      if s.station.lines.all (fun l => l.state = .acked) then s.enterRunning else s
    else s

/-- An ANNOUNCE from a required neighbour in LINKING (R22 to R24). -/
def State.announceWhileLinking (c : ConfigRecord) (src : Fin 10) (l : AcqLine) (a : Announce) (s : State) : State :=
  if ¬ trainAgrees c a then s.enterFaulted .trainMismatch src
  else if ¬ adjacencyAgrees c l.relation a then s.enterFaulted .distanceMismatch src
  else (s.countAgreement c src l).examineHeard src a

/-- An ANNOUNCE from a required neighbour in RUNNING or STOPPED (R25): a linking one is answered; a disagreement is reported and
faults nothing. -/
def State.announceWhileRunning (c : ConfigRecord) (src : Fin 10) (l : AcqLine) (a : Announce) (s : State) : State :=
  let s :=
    if a.linking then (s.queueReplyAnnounce c).raise .neighbourRejoined 0 (BitVec.ofNat 16 src.val) else s
  if ¬ trainAgrees c a then s.raise .neighbourMismatch 0 (detail (byteOf src.val) 0)
  else if ¬ adjacencyAgrees c l.relation a then s.raise .neighbourMismatch 0 (detail (byteOf src.val) 1)
  else s

/-- An ANNOUNCE is taken by the station controller; one that is not from a required neighbour, in no state (R26). -/
def State.takeAnnounce (src : Fin 10) (a : Announce) (s : State) : State :=
  match s.station.config, s.line? src with
  | some c, some l =>
    match s.station.state with
    | .linking => s.announceWhileLinking c src l a
    | .running | .stopped => s.announceWhileRunning c src l a
    | .configuring | .faulted => s
  | _, _ => s

/-- A gap notice reaches the station controller: in LINKING a neighbour in SEEK begins its row again (R23). -/
def State.acquisitionGap (src : Fin 10) (s : State) : State :=
  if s.station.state = .linking then
    s.mapLine src fun l => if l.state = .seek then { l with agreements := 0 } else l
  else s

end Sys2Proof.Machine
end

