-- ==== Sys2Proof/Machine/TrainBus.lean ====
section
/-! DEFINITION. The train bus family: the meanings of the nine receptions, of failed and malformed frames, and of the attempts
(Chapter 3). -/

namespace Sys2Proof.Machine

/-! ### SILENT (R43 to R45) -/

/-- The consecutive failures that lead into SILENT (R43). -/
def failureLimit : Nat := 16

/-- The consecutive good telegrams that lead out of SILENT; the count goes no higher (R44, R52). -/
def goodLimit : Nat := 64

/-- The bus unit enters SILENT (R43). -/
def State.enterSilent (s : State) : State :=
  { s with bus := { s.bus.flushAll with state := .silent, good := 0 } }.raise .busSilent 0 0

/-- The bus unit leaves SILENT; the detail is RECEPTION 0 or COMMAND 1 (R44, R45). -/
def State.leaveSilent (why : Half) (s : State) : State :=
  { s with bus := { s.bus with state := .active, failures := 0, good := 0 } }.raise .busActive 0 why

/-! ### The line (R30, R38, R39) -/

/-- The line in another state. -/
def State.withLine (l : LineState) (s : State) : State := { s with bus := { s.bus with line := l } }

/-- A frame from another station has ended: the idle period that follows counts its slots from 0 (R30, R39). While the station's own
attempt is on the line none begins. -/
def Bus.frameEnds (b : Bus) : Bus := { b with line := if b.attempt.isSome then b.line else .idle 0 }

/-- A frame on the line comes to its end, and the receiver takes it; in the rest of a frame in which its own attempt failed the station
takes no reception, and the line is idle after it (R41, log 15). -/
def State.atFrameEnd (take : State → State) (s : State) : State :=
  if s.bus.line = .lost then s.withLine (.idle 0) else take { s with bus := s.bus.frameEnds }

/-! ### Reception (R46 to R52) -/

/-- A good telegram advances the consecutive-good count; in SILENT the 64th in a row ends it (R44, R52). -/
def State.countGood (s : State) : State :=
  let good := min goodLimit (s.bus.good + 1)
  let s := { s with bus := { s.bus with good := good } }
  if s.bus.state = .silent ∧ good = goodLimit then s.leaveSilent 0 else s

/-- RX_GOOD advances (R53). -/
def State.countRxGood (s : State) : State :=
  { s with bus := { s.bus with counters := { s.bus.counters with rxGood := satAdd s.bus.counters.rxGood 1 } } }

/-- The expectation of a source is set (R49). -/
def State.setExpect (src : Fin 10) (seq : Byte) (s : State) : State :=
  { s with bus := { s.bus with expect := s.bus.expect.set src (some seq) } }

/-- How a good telegram from another station stands against the expectation for its source (R49, R50). -/
inductive SeqOutcome where
  | accepted
  | repeated
  | gap (missed : Nat)
  deriving DecidableEq, Repr

/-- The tests of R49, in order. -/
def seqOutcome (expect : Option Byte) (seq : Byte) (linking : Bool) : SeqOutcome :=
  match expect with
  | none => .accepted
  | some last =>
    if seq = last then .repeated
    else if linking then .accepted
    else if seq = last + 1 then .accepted
    else .gap (seq - (last + 1)).toNat

/-- A gap is counted and reported, and in LINKING, RUNNING and STOPPED the gap notice handed to the station controller and the
tracking engine (R50). -/
def State.reportGap (src : Fin 10) (missed : Nat) (s : State) : State :=
  let s := { s with
    bus := { s.bus with counters := { s.bus.counters with seqGaps := satAdd s.bus.counters.seqGaps missed } } }
  let s := s.raise .seqGap 0 (detail (byteOf src.val) (byteOf missed))
  if s.live then (s.acquisitionGap src).takeGapNotice src else s

/-- An accepted telegram is dispatched in LINKING, RUNNING and STOPPED (R51). -/
def State.dispatch (take : State → State) (s : State) : State := if s.live then take s else s

/-- A good telegram is taken (R48 to R52). `take` is what the block it is dispatched to does with it. -/
def State.takeTelegram (src : Fin 10) (seq : Byte) (linking : Bool) (take : State → State) (s : State) : State :=
  let s := s.countGood
  if s.ownPosition src then
    let s := s.countRxGood
    if s.live then s.enterFaulted .duplicatePosition src else s
  else
    match seqOutcome s.bus.expect[src] seq linking with
    | .repeated =>
      { s with bus := { s.bus with counters := { s.bus.counters with rxRepeat := satAdd s.bus.counters.rxRepeat 1 } } }
    | .accepted => ((s.countRxGood).setExpect src seq).dispatch take
    | .gap missed => (((s.countRxGood).setExpect src seq).reportGap src missed).dispatch take

/-- A good telegram is received at the end of its frame. -/
def State.receive (src : Fin 10) (seq : Byte) (linking : Bool) (take : State → State) (s : State) : State :=
  s.atFrameEnd (State.takeTelegram src seq linking take)

/-- The tracking engine takes a telegram, in RUNNING alone (R62). -/
def State.whenRunning (take : ConfigRecord → State → State) (s : State) : State :=
  match s.station.config with
  | some c => if s.station.state = .running then take c s else s
  | none => s

/-- ANNOUNCE_RECEIVED (R22 to R26). -/
def execAnnounceReceived (src : Fin 10) (seq : Byte) (a : Announce) (s : State) : Host.Outcome State Fault Refusal :=
  .next (s.receive src seq a.linking fun s => s.takeAnnounce src a)

/-- PIECE_ENTRY_RECEIVED (R4, R63). -/
def execPieceEntryReceived (src : Fin 10) (seq : Byte) (r : PieceRecord) (s : State) : Host.Outcome State Fault Refusal :=
  .next (s.receive src seq false fun s => s.whenRunning fun c s => s.takePieceEntry c src r)

/-- PIECE_WITHDRAW_RECEIVED (R79). -/
def execPieceWithdrawReceived (src : Fin 10) (seq : Byte) (tag : Half) (s : State) : Host.Outcome State Fault Refusal :=
  .next (s.receive src seq false fun s => s.whenRunning fun _ s => s.takePieceWithdraw src tag)

/-- HEAD_BITE_RECEIVED (R66, R73, R74). -/
def execHeadBiteReceived (src : Fin 10) (seq : Byte) (tag : Half) (anonymous : Bool) (speed : Half) (s : State) :
    Host.Outcome State Fault Refusal :=
  .next (s.receive src seq false fun s => s.whenRunning fun c s => s.takeHeadBite c src tag anonymous speed)

/-- TAIL_OUT_RECEIVED (R67, R68, R75). -/
def execTailOutReceived (src : Fin 10) (seq : Byte) (tag : Half) (anonymous : Bool) (s : State) :
    Host.Outcome State Fault Refusal :=
  .next (s.receive src seq false fun s => s.whenRunning fun c s => s.takeTailOut c src tag anonymous)

/-- SPEED_REPORT_RECEIVED (R150, R152). -/
def execSpeedReportReceived (src : Fin 10) (seq : Byte) (tag speed : Half) (s : State) : Host.Outcome State Fault Refusal :=
  .next (s.receive src seq false fun s => s.whenRunning fun c s => s.takeSpeedReport c src tag speed)

/-- HANDOFF_FAULT_RECEIVED (R153). -/
def execHandoffFaultReceived (src : Fin 10) (seq : Byte) (tag : Half) (code : Byte) (s : State) :
    Host.Outcome State Fault Refusal :=
  .next (s.receive src seq false fun s => s.whenRunning fun c s => s.takeHandoffFault c src tag code)

/-- A TRAIN_STOP telegram is taken (R162): acted upon, ignored, or without effect outside RUNNING. -/
def State.takeStop (src : Fin 10) (level cause : Byte) (s : State) : State :=
  s.whenRunning fun c s =>
    if within level.toNat 1 7 ∧ c.stopThreshold.toNat ≤ level.toNat then
      s.enterStopped.raise .stopActed 0 (stopDetail level (nibble src) cause)
    else s.raise .stopIgnored 0 (stopDetail level (nibble src) cause)

/-- TRAIN_STOP_RECEIVED (R162). -/
def execTrainStopReceived (src : Fin 10) (seq : Byte) (level cause : Byte) (s : State) : Host.Outcome State Fault Refusal :=
  .next (s.receive src seq false fun s => s.takeStop src level cause)

/-- TRAIN_RESUME_RECEIVED (R166). -/
def execTrainResumeReceived (src : Fin 10) (seq : Byte) (s : State) : Host.Outcome State Fault Refusal :=
  .next (s.receive src seq false fun s => s.takeResume (nibble src))

/-- RX_FAILED_RECEPTION (R46, R52): RX_CRC advances, the consecutive-good count is 0, whatever the reason. -/
def execRxFailedReception (_why : ReceptionFailure) (s : State) : Host.Outcome State Fault Refusal :=
  .next (s.atFrameEnd fun s => { s with bus := { s.bus with
    good := 0, counters := { s.bus.counters with rxCrc := satAdd s.bus.counters.rxCrc 1 } } })

/-- RX_MALFORMED (R47, R52): RX_MALFORMED advances, the consecutive-good count is 0, whatever the reason. -/
def execRxMalformed (_why : Malformation) (s : State) : Host.Outcome State Fault Refusal :=
  .next (s.atFrameEnd fun s => { s with bus := { s.bus with
    good := 0, counters := { s.bus.counters with rxMalformed := satAdd s.bus.counters.rxMalformed 1 } } })

/-! ### Attempts (R37 to R43) -/

/-- The telegram that heads the highest-priority non-empty queue, with its class (R33). -/
def Bus.head (b : Bus) : Option (TxClass × Queued) :=
  match b.stopQueue, b.eventQueue, b.reportQueue, b.linkQueue with
  | q :: _, _, _, _ => some (.stop, q)
  | [], q :: _, _, _ => some (.event, q)
  | [], [], q :: _, _ => some (.report, q)
  | [], [], [], q :: _ => some (.link, q)
  | [], [], [], [] => none

/-- The deferral of a class at a position, in slots (R38). -/
def deferral (cls : TxClass) (position : Nat) : Nat := 4 + 10 * cls.number + position

/-- The number a telegram is attempted under: the one it has, or the station's own at its first attempt (R37). -/
def Queued.numberAt (q : Queued) (own : Byte) : Byte := q.seq.getD own

/-- An attempt begins for a telegram: its first one numbers it and advances the station's number (R37, R38). -/
def Bus.begin (cls : TxClass) (q : Queued) (b : Bus) : Bus :=
  let seq := q.numberAt b.ownSeq
  { b.withQueue ({ q with seq := some seq } :: (b.queue cls).tail) cls with
    ownSeq := if q.seq.isNone then b.ownSeq + 1 else b.ownSeq
    line := .busy
    attempt := some { telegram := q.telegram, seq := seq, cls := cls, queued := true } }

/-- The telegram whose deferral slot count n is: an ACTIVE bus unit begins an attempt for it there (R38). -/
def State.dueAtSlot (n : Fin 44) (s : State) : Option (TxClass × Queued) :=
  match s.bus.head with
  | some (cls, q) =>
    if s.bus.state = .active ∧ n.val = deferral cls s.station.position.toNat then some (cls, q) else none
  | none => none

/-- The station begins an attempt (R38). -/
def State.beginAttempt (cls : TxClass) (q : Queued) (s : State) : State := { s with bus := s.bus.begin cls q }

/-- The slot count of the idle line comes to n: an attempt begins there, or the count stands at n (R38). The deferral is compared as the
count comes to the slot (DESIGN CHOICE, log 4). -/
def State.slotComes (n : Fin 44) (s : State) : State :=
  match s.dueAtSlot n with
  | some (cls, q) => s.beginAttempt cls q
  | none => s.withLine (.idle n)

/-- Slots of the idle line pass one by one, the count going from 43 to 0, until an attempt begins (R38). -/
def State.slotsPass : Nat → State → State
  | 0, s => s
  | slots + 1, s =>
    match s.bus.line with
    | .idle n => (s.slotComes (n + 1)).slotsPass slots
    | .busy | .lost => s

/-- The line once it is idle: where no idle period was counted one begins, its count at 0 (R38, R54). -/
def LineState.nowIdle : LineState → LineState
  | .idle n => .idle n
  | .busy | .lost => .idle 0

/-- The line is idle for a number of slots (log 4); it is not while the station's own attempt is on it (log 18). -/
def State.lineIdle (slots : Nat) (s : State) : State :=
  if s.bus.attempt.isSome then s else (s.withLine s.bus.line.nowIdle).slotsPass slots

/-- ATTEMPT_BEGIN (R38). -/
def execAttemptBegin (slots : Nat) (s : State) : Host.Outcome State Fault Refusal := .next (s.lineIdle slots)

/-- The attempt on the line has succeeded (R40): the telegram leaves its queue, if it is still in it (R42), and the idle period after
the frame counts its slots from 0. -/
def State.attemptSucceeds (s : State) : State :=
  match s.bus.attempt with
  | none => s
  | some a =>
    let bus := if a.queued then s.bus.withQueue (s.bus.queue a.cls).tail a.cls else s.bus
    { s with bus := { bus with
      attempt := none, line := .idle 0, failures := 0, counters := { bus.counters with txGood := satAdd bus.counters.txGood 1 } } }

/-- ATTEMPT_SUCCESS (R40). With no attempt on the line there is none to end. -/
def execAttemptSuccess (s : State) : Host.Outcome State Fault Refusal := .next s.attemptSucceeds

/-- How many failed attempts drop a telegram (R41). -/
def attemptLimit : Nat := 4

/-- The failed attempt's own telegram, if it is still queued: its count of failed attempts advances, and the fourth drops it (R41,
R42). -/
def State.failTelegram (a : Attempt) (s : State) : State :=
  if a.queued then
    match s.bus.queue a.cls with
    | [] => s
    | q :: rest =>
      if attemptLimit ≤ q.failed + 1 then
        { s with bus := s.bus.withQueue rest a.cls }.dropTelegram q.telegram 1
      else { s with bus := s.bus.withQueue ({ q with failed := q.failed + 1 } :: rest) a.cls }
  else s

/-- The attempt on the line has failed, and whatever else is on the line in that frame is lost to the station (R41, R43). -/
def State.attemptFails (s : State) : State :=
  match s.bus.attempt with
  | none => s
  | some a =>
    let s := { s with bus := { s.bus with
      attempt := none, line := .lost, failures := s.bus.failures + 1,
      counters := { s.bus.counters with txFail := satAdd s.bus.counters.txFail 1 } } }
    let s := s.failTelegram a
    if failureLimit ≤ s.bus.failures then s.enterSilent else s

/-- ATTEMPT_FAIL (R41). With no attempt on the line there is none to end. -/
def execAttemptFail (s : State) : Host.Outcome State Fault Refusal := .next s.attemptFails

/-- The frame on BUS_TX during an attempt (R31, R179). -/
def State.busFrame (s : State) : Option (List Byte) :=
  s.bus.attempt.map fun a => a.telegram.frame s.station.position a.seq

/-- The bits that the station drives on the line during an attempt (R30). -/
def State.busBits (s : State) : Option (List Bool) := s.busFrame.map frameBits

/-- BUS_DE is asserted for the length of an attempt (R30). -/
def State.busDriven (s : State) : Bool := s.bus.attempt.isSome

end Sys2Proof.Machine
end

