-- ==== Sys2Proof/Machine/TimeBase.lean ====
section
/-! DEFINITION. The time base family (R9): the meanings of the commands that report a timer at its end, an aged entry or a stall,
each with the effect of that expiry where the timer is at its end and none where it is not (log 2); and the millisecond tick, which
`step` takes on an empty queue (log 1). -/

namespace Sys2Proof.Machine

/-! ### Expiries -/

/-- ANNOUNCE_TIMER_EXPIRY (R20): in LINKING a linking ANNOUNCE is queued and the timer restarts. -/
def execAnnounceTimerExpiry (s : State) : Host.Outcome State Fault Refusal :=
  match s.station.config with
  | some c =>
    if s.station.state = .linking ∧ s.station.announceTimer.expired then
      .next ({ s with station := { s.station with
        announceTimer := some c.announcePeriod.toNat } }.queueLinkingAnnounce c)
    else .next s
  | none => .next s

/-- LINK_TIMEOUT (R21): in LINKING the event names the required neighbours not yet ACKED, and the timer restarts. -/
def execLinkTimeout (s : State) : Host.Outcome State Fault Refusal :=
  match s.station.config with
  | some c =>
    if s.station.state = .linking ∧ s.station.linkTimer.expired then
      .next ({ s with station := { s.station with linkTimer := some c.linkTimeoutMs } }.raise .linkTimeout 0
        ((positionSet (s.station.positions fun (l : AcqLine) => l.state != AcqState.acked)).setWidth 16))
    else .next s
  | none => .next s

/-- SAMPLE_LOSS (R91): the sample timeout has expired and the condition is not standing: it is set, with event and flag, and the
looper told (R137). -/
def execSampleLoss (s : State) : Host.Outcome State Fault Refusal :=
  match s.station.config with
  | some c =>
    if s.live ∧ s.stand.sampleTimer.expired ∧ s.stand.sampleLoss = false then
      .next ((({ s with stand := { s.stand with sampleLoss := true } }.raise .sampleLoss 0
        ((s.stand.lastSeq.getD 0).setWidth 16)).setFlag .sampleLoss).looperSampleLoss c)
    else .next s
  | none => .next s

/-- The least sample speed, in mm/s, at which missing pulses are a stall (R93). -/
def stallSpeed : Nat := 500

/-- The stall check finds a stall (R93). -/
def State.stallFound (s : State) : Bool :=
  s.live && s.stand.stallTimer.expired && s.stand.latest.any (fun x => stallSpeed ≤ x.speed.toNat) && !s.stand.sampleLoss &&
    !s.stand.encoderStall

/-- ENCODER_FAULT (R93): the condition is set, with event and flag; the tracking engine discards the marks (R78), and the load
detector abandons its verification (R101). -/
def execEncoderFault (s : State) : Host.Outcome State Fault Refusal :=
  match s.stand.latest with
  | some x =>
    if s.stallFound then
      .next (({ s with
        stand := { s.stand with encoderStall := true }
        table := s.table.map Entry.encoderFault
        detector := { s.detector with verify := .idle } }.raise .encoderFault 0 x.speed).setFlag .encoder)
    else .next s
  | none => .next s

/-- The entry is in an aging phase: ANNOUNCED with origin BUS, or CLEARED (R58). -/
def Entry.aging (e : Entry) : Bool := (e.phase == .announced && e.origin == .bus) || e.phase == .cleared

/-- The entry is in an aging phase and its age has reached the limit (R81). -/
def Entry.aged (limit : Nat) (e : Entry) : Bool := e.aging && limit ≤ e.age

/-- The detail of PIECE_AGED (R183). -/
def Entry.agedDetail (e : Entry) : Half := detail e.phase.code (if e.phase = .cleared then e.downstream.code else 0)

/-- PIECE_AGED (R81): the oldest entry whose age has reached the limit is removed. -/
def execPieceAged (s : State) : Host.Outcome State Fault Refusal :=
  match s.station.config with
  | some c =>
    match s.oldest (Entry.aged c.ageLimitMs) with
    | some slot =>
      match s.table[slot]? with
      | some e => .next ((s.removeEntry slot).raise .pieceAged e.tag e.agedDetail)
      | none => .next s
    | none => .next s
  | none => .next s

/-- A timeout fault of the looper: the event with the served piece and the angle of the latest sample, the flag, then the fault
(R136). -/
def State.looperTimeout (c : ConfigRecord) (kind : EventKind) (flag : LatchedFlag) (f : LooperFault) (s : State) : State :=
  let (angle, s) := s.latestField Sample.angle
  ((s.raise kind s.looper.served angle).setFlag flag).looperFault c f

/-- LIFT_TIMEOUT (R130, R136): the lift timer has expired in RISE. -/
def execLiftTimeout (s : State) : Host.Outcome State Fault Refusal :=
  match s.station.config with
  | some c =>
    if s.looper.state = .lifting .rise ∧ s.looper.liftTimer.expired then
      .next (s.looperTimeout c .liftTimeout .liftTimeout .liftTimeout)
    else .next s
  | none => .next s

/-- SETTLE_TIMER_EXPIRY (R131): the looper enters REGULATING. -/
def execSettleTimerExpiry (s : State) : Host.Outcome State Fault Refusal :=
  if s.looper.state = .lifting .settle ∧ s.looper.settleTimer.expired then .next s.regulate else .next s

/-- LOWER_TIMEOUT (R134, R136): the lower timer has expired in LOWERING. -/
def execLowerTimeout (s : State) : Host.Outcome State Fault Refusal :=
  match s.station.config with
  | some c =>
    if s.looper.state = .lowering ∧ s.looper.lowerTimer.expired then
      .next (s.looperTimeout c .lowerTimeout .lowerTimeout .lowerTimeout)
    else .next s
  | none => .next s

/-- HOLD_OFF_EXPIRY (R139): the looper leaves HOLD_OFF for PARKED. -/
def execHoldOffExpiry (s : State) : Host.Outcome State Fault Refusal :=
  if s.looper.state = .holdOff ∧ s.looper.holdOffTimer.expired then .next { s with looper := s.looper.leaveHoldOff } else .next s

/-- The tag of the in-stand entry, 0 where there is none. -/
def State.inStandTag (s : State) : Half := (s.inStand?.map Entry.tag).getD 0

/-- REPORT_AGE_EXPIRY (R151): the trim is held as STALE. -/
def execReportAgeExpiry (s : State) : Host.Outcome State Fault Refusal :=
  if s.trim.state = .tracking ∧ s.trim.ageTimer.expired then .next (s.holdTrim s.inStandTag .stale) else .next s

/-- A SPEED_REPORT of the in-stand entry and the speed of the latest sample is queued (R157). -/
def State.queueReport (s : State) : State :=
  let (speed, s) := s.latestField Sample.speed
  s.queueTelegram (.speedReport s.inStandTag speed)

/-- REPORT_PERIOD_EXPIRY (R157): in RUNNING with the detector LOADED a SPEED_REPORT is queued; the timer restarts. -/
def execReportPeriodExpiry (s : State) : Host.Outcome State Fault Refusal :=
  match s.station.config with
  | some c =>
    if s.role = .stand ∧ s.trim.reportTimer.expired then
      let s := { s with trim := { s.trim with reportTimer := some c.reportPeriod.toNat } }
      .next (if s.station.state = .running ∧ s.detector.state = .loaded then s.queueReport else s)
    else .next s
  | none => .next s

/-! ### The tick -/

/-- A millisecond count held at 65535 once it is there. -/
def countMs (n : Nat) : Nat := min 65535 (n + 1)

/-- The line a millisecond on: that is longer than any frame, so the frame that was lost has ended (R31, R41, log 15). -/
def LineState.tick : LineState → LineState
  | .idle n => .idle n
  | .busy | .lost => .busy

/-- One tick is counted: the time base advances and wraps, every running timer comes a tick nearer its end, every entry in an aging
phase grows a millisecond older (R9, R58). -/
def State.countTick (s : State) : State :=
  { s with
    timeBase := s.timeBase + 1
    station := { s.station with
      announceTimer := s.station.announceTimer.tick, linkTimer := s.station.linkTimer.tick }
    bus := { s.bus with line := s.bus.line.tick }
    table := s.table.map fun e => if e.aging then { e with age := e.age + 1 } else e
    stand := { s.stand with
      sampleTimer := s.stand.sampleTimer.tick, stallTimer := s.stand.stallTimer.tick,
      sinceSample := countMs s.stand.sinceSample, sincePulse := s.stand.sincePulse.map countMs }
    looper := { s.looper with
      liftTimer := s.looper.liftTimer.tick, settleTimer := s.looper.settleTimer.tick,
      lowerTimer := s.looper.lowerTimer.tick, holdOffTimer := s.looper.holdOffTimer.tick }
    trim := { s.trim with ageTimer := s.trim.ageTimer.tick, reportTimer := s.trim.reportTimer.tick } }

/-- How many entries have reached the age limit. -/
def State.agedCount (s : State) : Nat :=
  match s.station.config with
  | some c => s.table.countP (Entry.aged c.ageLimitMs)
  | none => 0

/-- The commands of the time base that are due, in the order of the table (log 2). -/
def State.due (s : State) : List Instr :=
  (if s.station.announceTimer.expired then [.announceTimerExpiry] else []) ++
  (if s.station.linkTimer.expired then [.linkTimeout] else []) ++
  (if s.live && s.stand.sampleTimer.expired && !s.stand.sampleLoss then [.sampleLoss] else []) ++
  (if s.stallFound then [.encoderFault] else []) ++
  List.replicate s.agedCount .pieceAged ++
  (if s.looper.liftTimer.expired then [.liftTimeout] else []) ++
  (if s.looper.settleTimer.expired then [.settleTimerExpiry] else []) ++
  (if s.looper.lowerTimer.expired then [.lowerTimeout] else []) ++
  (if s.looper.holdOffTimer.expired then [.holdOffExpiry] else []) ++
  (if s.trim.ageTimer.expired then [.reportAgeExpiry] else []) ++
  (if s.trim.reportTimer.expired then [.reportPeriodExpiry] else [])

/-- One millisecond passes: it is counted, and what is due joins the queue of waiting commands. -/
def State.tick (s : State) : State :=
  let s := s.countTick
  { s with pending := s.pending ++ s.due }

end Sys2Proof.Machine
end

