-- ==== Sys2Proof/Machine/HostCommands.lean ====
section
/-! DEFINITION. Reset and the host port family: the meanings of RESET, of the seventeen host commands, of an unknown code, of a
transaction broken off, and of an event record clocked out (Chapter 10). -/

namespace Sys2Proof.Machine

/-! ### Reset (R29) -/

/-- The station reset, its strap pins at this level and the encoder channels as they stand. The commands waiting outside wait on, and
the model's counter of free values runs on. -/
def State.resetTo (strap : BitVec 4) (encA encB : Bool) (s : State) : State :=
  { State.atReset strap encA encB with pending := s.pending, freeCount := s.freeCount }

/-- RESET (R29): the pins are read anew. -/
def execReset (strap : BitVec 4) (encA encB : Bool) (s : State) : Host.Outcome State Fault Refusal :=
  .next (s.resetTo strap encA encB)

/-! ### The transaction (R168, R169) -/

/-- A new transaction begins, so the one before it has ended: a SOFT_RESET taken in it has its effect (R29, log 9), an event record
not clocked out stays queued (R174), and no response is there yet. -/
def State.openTransaction (s : State) : State :=
  let s := if s.host.softResetDue then s.resetTo s.strap s.stand.encA s.stand.encB else s
  { s with host := { s.host with reading := .idle, response := none } }

/-- The status and response data of the transaction's command. -/
def State.respond (status : Status) (data : List Byte) (s : State) : State :=
  { s with host := { s.host with response := some { status := status, data := data } } }

/-- A refusal without response data (R181). -/
def State.refuse (status : Status) (s : State) : State := s.respond status []

/-- A host command is taken: its argument length is tested first (R168). -/
def State.command (lengthOk : Bool) (take : State → State) (s : State) : State :=
  let s := s.openTransaction
  if lengthOk then take s else s.refuse .badLength

/-- What SPI_DO has carried in the transaction with these bytes on SPI_DI, once its command is taken (R168, R181). -/
def State.spiOutput (sent : List Byte) (s : State) : List Byte := spiOut sent s.host.response

/-- The same bit for bit, for the bits on SPI_DI (R168). -/
def State.spiBitsOutput (line : List Bool) (s : State) : List Bool := spiBitsOut line s.host.response

/-- The state test of a command that is taken in RUNNING or STOPPED (Table 10.1). -/
def State.runningOrStopped (s : State) : Bool := s.station.state == .running || s.station.state == .stopped

/-! ### Configuration and start (R17 to R19, R91, R93) -/

/-- CONFIG_WRITE with 59 argument bytes (R17). -/
def State.configWrite (args : List Byte) (s : State) : State :=
  if s.station.state = .configuring then
    let c := ConfigRecord.ofBytes args
    match c.firstBad with
    | none => { s with station := { s.station with config := some c } }.refuse .ok
    | some index => s.respond .badArgument [byteOf index]
  else s.refuse .wrongState

/-- CONFIG_WRITE (R17). -/
def execConfigWrite (args : List Byte) (s : State) : Host.Outcome State Fault Refusal :=
  .next (s.command (args.length == 59) (State.configWrite args))

/-- What START does once its four tests have succeeded (R19); the sample timeout and the encoder stall timer start with it (R91,
R93). -/
def State.accept (c : ConfigRecord) (s : State) : State :=
  let s := { s with
    station := { s.station with
      state := .linking, lines := requiredLines c s.station.position
      announceTimer := some c.announcePeriod.toNat, linkTimer := some c.linkTimeoutMs }
    stand := { s.stand with
      sampleTimer := some c.sampleTimeout.toNat, stallTimer := some c.encoderStall.toNat, lastSeq := none, sinceSample := 0 } }
  (s.queueLinkingAnnounce c).refuse .ok

/-- START with no arguments: the four tests of Table 2.4 in order (R18). -/
def State.startCommand (s : State) : State :=
  if s.station.state ≠ .configuring then s.refuse .wrongState
  else if s.role = .invalid then s.refuse .wrongRole
  else
    match s.station.config with
    | none => s.respond .badArgument [0]
    | some c => if belongs c s.station.position then s.accept c else s.refuse .wrongRole

/-- START (R18, R19). -/
def execStart (args : List Byte) (s : State) : Host.Outcome State Fault Refusal :=
  .next (s.command args.isEmpty State.startCommand)

/-! ### Status, events, flags, counters (R170, R171, R174, R176) -/

/-- A line of the acquisition table in a status record: position, relation in bit 7 and state in bits 1..0, agreement count; a line
that is not there as zeros (Table 11.5, log 16). -/
def lineBytes : Option AcqLine → List Byte
  | none => [0, 0, 0]
  | some l =>
    [byteOf l.position.val, (if l.relation = .downstream then (0x80 : Byte) else 0) ||| l.state.code, byteOf l.agreements]

/-- The queue fills of a status record. -/
def Bus.fills (b : Bus) : List Byte :=
  [byteOf b.stopQueue.length, byteOf b.eventQueue.length, byteOf b.reportQueue.length, byteOf b.linkQueue.length]

/-- The 48 bytes of a status record (R170, Table 11.5). -/
def State.statusRecord (s : State) : List Byte :=
  [s.station.state.code, s.station.position.setWidth 8, s.role.code, flagByte s.station.config.isSome,
    (s.station.fault.map fun f => f.1.code).getD 0, (s.station.fault.map fun f => byteOf f.2.val).getD 0,
    byteOf s.station.lines.length] ++ lineBytes s.station.lines[0]? ++ lineBytes s.station.lines[1]? ++
  [s.bus.state.code, byteOf s.bus.failures, byteOf s.bus.good, s.bus.ownSeq] ++ s.bus.fills ++ bytes32 s.stand.pulse ++
  [bitsByte [s.stand.sampleLoss, s.stand.encoderStall], s.detector.state.code, s.detector.verify.code,
    s.looper.state.code, s.looper.state.phaseCode] ++ bytes16 s.looper.served ++
  bytes16 (BitVec.ofNat 16 s.looper.integrator) ++ [s.trim.state.code] ++ bytes16 (BitVec.ofInt 16 s.trim.target) ++
  bytes16 (BitVec.ofInt 16 s.trim.current) ++
  [flagByte s.trim.saturated, byteOf s.table.length, byteOf s.host.events.length, s.host.overflow] ++
  bytes16 s.faultFlags ++ [bitsByte [s.irqAsserted, s.faultAsserted]] ++ bytes16 (s.timeBase.setWidth 16)

/-- STATUS_READ (R170). -/
def execStatusRead (args : List Byte) (s : State) : Host.Outcome State Fault Refusal :=
  .next (s.command args.isEmpty fun s => s.respond .ok s.statusRecord)

/-- EVENT_READ with no arguments (R174): the head of the queue, which stays there until it is clocked out, or NONE. -/
def State.readEvent (s : State) : State :=
  match s.host.events with
  | [] => s.respond .ok noEventBytes
  | e :: _ => { s with host := { s.host with reading := .head } }.respond .ok e.bytes

/-- EVENT_READ (R174). -/
def execEventRead (args : List Byte) (s : State) : Host.Outcome State Fault Refusal :=
  .next (s.command args.isEmpty State.readEvent)

/-- EVENT_RECORD_CLOCKED_OUT (R174): the head event is removed, unless the overflow rule has removed it already or none was read. -/
def execEventRecordClockedOut (s : State) : Host.Outcome State Fault Refusal :=
  match s.host.reading with
  | .head => .next { s with host := { s.host with events := s.host.events.tail, reading := .idle } }
  | .displaced => .next { s with host := { s.host with reading := .idle } }
  | .idle => .next s

/-- FAULT_CLEAR with a two-byte mask (R176): only latched flags may be named; naming EVENT_OVERFLOW clears the overflow count. -/
def State.clearFlags (mask : Half) (s : State) : State :=
  if mask >>> 8 ≠ 0 then s.refuse .badArgument
  else
    let low : Byte := mask.setWidth 8
    { s with host := { s.host with
      latched := s.host.latched &&& ~~~low
      overflow := if low &&& LatchedFlag.eventOverflow.mask ≠ 0 then 0 else s.host.overflow } }.refuse .ok

/-- FAULT_CLEAR (R176). -/
def execFaultClear (args : List Byte) (s : State) : Host.Outcome State Fault Refusal :=
  .next (s.command (args.length == 2) (State.clearFlags (argHalf args 0)))

/-- The ten counters in the order of R181. -/
def State.counterBytes (s : State) : List Byte :=
  let k := s.bus.counters
  [k.rxGood, k.rxCrc, k.rxMalformed, k.rxRepeat, k.seqGaps, k.txGood, k.txFail, k.txDrop, s.stand.sampleGaps,
    s.stand.sampleErrors].flatMap bytes16

/-- COUNTERS_READ with no arguments: all ten are read and set to 0 in one step (R53, R171). -/
def State.readCounters (s : State) : State :=
  { s with
    bus := { s.bus with counters := Counters.zero }
    stand := { s.stand with sampleGaps := 0, sampleErrors := 0 } }.respond .ok s.counterBytes

/-- COUNTERS_READ (R171). -/
def execCountersRead (args : List Byte) (s : State) : Host.Outcome State Fault Refusal :=
  .next (s.command args.isEmpty State.readCounters)

/-! ### Pieces and the table (R64, R65, R80, R83, R84) -/

/-- A refusal that a piece record's check or creation makes: status and data of R181, and PIECE_REFUSED (R5, R60). -/
def State.refuseRecord (tag : Half) (r : RefuseReason) (s : State) : State :=
  let s := s.refusePiece tag r
  match r with
  | .malformed f => s.respond .badArgument [byteOf f.check, byteOf f.pass]
  | .duplicate => s.refuse .duplicate
  | .full => s.refuse .full

/-- A piece record of the host creates an entry (R5, R60); `queued` is the telegram that goes with it, if any. -/
def State.insertPiece (c : ConfigRecord) (origin : Origin) (queued : Option Telegram) (r : PieceRecord) (s : State) : State :=
  match checkRecord c.n r with
  | some f => s.refuseRecord r.tag (.malformed f)
  | none =>
    let e := newEntry c s.station.position origin r
    match s.createEntry e with
    | .error why => s.refuseRecord r.tag why
    | .ok s =>
      let s := s.raiseAdded e
      let s :=
        match queued with
        | some t => s.queueTelegram t
        | none => s
      s.refuse .ok

/-- PIECE_ANNOUNCE with a piece record: role, state, record, creation (R172, R5, R64). -/
def State.pieceAnnounce (r : PieceRecord) (s : State) : State :=
  if s.role ≠ .entry then s.refuse .wrongRole
  else
    match s.station.config with
    | some c =>
      if s.station.state = .running then s.insertPiece c .bus (some (.pieceEntry r)) r else s.refuse .wrongState
    | none => s.refuse .wrongState

/-- PIECE_ANNOUNCE (R64, R172): its argument length must agree with the pass count in the arguments (R168). -/
def execPieceAnnounce (args : List Byte) (s : State) : Host.Outcome State Fault Refusal :=
  match pieceRecordOfBytes args with
  | some r => .next (s.command true (State.pieceAnnounce r))
  | none => .next (s.command false id)

/-- PIECE_WITHDRAW with a tag (R80, R172). -/
def State.pieceWithdraw (tag : Half) (s : State) : State :=
  if s.role ≠ .entry then s.refuse .wrongRole
  else if s.station.state ≠ .running then s.refuse .wrongState
  else
    match s.slotOfTag tag with
    | none => s.refuse .notFound
    | some slot =>
      match s.table[slot]? with
      | none => s.refuse .notFound
      | some e =>
        if e.phase = .announced then
          ((s.withdrawEntry slot e .withdraw).queueTelegram (.pieceWithdraw tag)).refuse .ok
        else s.refuse .active

/-- PIECE_WITHDRAW (R80, R172). -/
def execPieceWithdraw (args : List Byte) (s : State) : Host.Outcome State Fault Refusal :=
  .next (s.command (args.length == 2) (State.pieceWithdraw (argHalf args 0)))

/-- NOT_FOUND with the number of entries (R83, R181). -/
def State.noEntry (s : State) : State := s.respond .notFound [byteOf s.table.length]

/-- The entry at a slot is returned (R83, R182). -/
def State.returnEntry (slot : Nat) (s : State) : State :=
  match s.table[slot]? with
  | some e => s.respond .ok (entryRecord slot s.table.length e)
  | none => s.noEntry

/-- TRACK_READ with an order slot (R83). -/
def State.trackRead (slot : Nat) (s : State) : State :=
  if 7 < slot then s.refuse .badArgument else s.returnEntry slot

/-- TRACK_READ (R83). -/
def execTrackRead (args : List Byte) (s : State) : Host.Outcome State Fault Refusal :=
  .next (s.command (args.length == 1) (State.trackRead (argByte args 0).toNat))

/-- TRACK_FIND with a tag: the oldest entry that carries it, tag 0 the oldest anonymous one (R83). -/
def State.trackFind (tag : Half) (s : State) : State :=
  match s.oldest fun e => e.tag = tag with
  | some slot => s.returnEntry slot
  | none => s.noEntry

/-- TRACK_FIND (R83). -/
def execTrackFind (args : List Byte) (s : State) : Host.Outcome State Fault Refusal :=
  .next (s.command (args.length == 2) (State.trackFind (argHalf args 0)))

/-- TRACK_INSERT with a piece record: state, record, creation; no telegram (R5, R65). -/
def State.trackInsert (r : PieceRecord) (s : State) : State :=
  match s.station.config with
  | some c => if s.station.state = .running then s.insertPiece c .manual none r else s.refuse .wrongState
  | none => s.refuse .wrongState

/-- TRACK_INSERT (R65): its argument length must agree with the pass count in the arguments (R168). -/
def execTrackInsert (args : List Byte) (s : State) : Host.Outcome State Fault Refusal :=
  match pieceRecordOfBytes args with
  | some r => .next (s.command true (State.trackInsert r))
  | none => .next (s.command false id)

/-- TRACK_REMOVE with a tag: the oldest entry that carries it, unless it is in-stand (R84). -/
def State.trackRemove (tag : Half) (s : State) : State :=
  if s.station.state ≠ .running then s.refuse .wrongState
  else
    match s.oldest fun e => e.tag = tag with
    | none => s.refuse .notFound
    | some slot =>
      match s.table[slot]? with
      | none => s.refuse .notFound
      | some e => if e.isInStand then s.refuse .active else (s.withdrawEntry slot e .host).refuse .ok

/-- TRACK_REMOVE (R84). -/
def execTrackRemove (args : List Byte) (s : State) : Host.Outcome State Fault Refusal :=
  .next (s.command (args.length == 2) (State.trackRemove (argHalf args 0)))

/-! ### Requests to the station (R140, R159, R165, R45, R29) -/

/-- LOOPER_RELEASE with no arguments: station state, role, looper state (R140). -/
def State.releaseLooper (s : State) : State :=
  if ¬ s.runningOrStopped then s.refuse .wrongState
  else if ¬ s.station.config.any fun c => s.hasLooper c then s.refuse .wrongRole
  else if s.looper.state = .holdOff then { s with looper := s.looper.leaveHoldOff }.refuse .ok
  else s.refuse .wrongState

/-- LOOPER_RELEASE (R140). -/
def execLooperRelease (args : List Byte) (s : State) : Host.Outcome State Fault Refusal :=
  .next (s.command args.isEmpty State.releaseLooper)

/-- TRAIN_STOP with a level; its cause is HOST, 0 (R159). -/
def State.stopCommand (level : Byte) (s : State) : State :=
  if ¬ s.runningOrStopped then s.refuse .wrongState
  else if within level.toNat 1 7 then (s.originateStop level 0).refuse .ok
  else s.refuse .badArgument

/-- TRAIN_STOP (R159). -/
def execTrainStop (args : List Byte) (s : State) : Host.Outcome State Fault Refusal :=
  .next (s.command (args.length == 1) (State.stopCommand (argByte args 0)))

/-- TRAIN_RESUME with no arguments: the telegram is queued, and a STOPPED station applies the resume to itself (R165). -/
def State.resumeCommand (s : State) : State :=
  if s.runningOrStopped then ((s.queueTelegram .trainResume).takeResume s.station.position).refuse .ok
  else s.refuse .wrongState

/-- TRAIN_RESUME (R165). -/
def execTrainResume (args : List Byte) (s : State) : Host.Outcome State Fault Refusal :=
  .next (s.command args.isEmpty State.resumeCommand)

/-- BUS_RELINK with no arguments: taken while SILENT, whatever the station state (R45). -/
def State.relink (s : State) : State :=
  if s.bus.state = .silent then (s.leaveSilent 1).refuse .ok else s.refuse .wrongState

/-- BUS_RELINK (R45). -/
def execBusRelink (args : List Byte) (s : State) : Host.Outcome State Fault Refusal :=
  .next (s.command args.isEmpty State.relink)

/-- SOFT_RESET with no arguments: OK; the reset comes when the transaction ends (R29, R168). -/
def State.requestReset (s : State) : State := { s with host := { s.host with softResetDue := true } }.refuse .ok

/-- SOFT_RESET (R29). -/
def execSoftReset (args : List Byte) (s : State) : Host.Outcome State Fault Refusal :=
  .next (s.command args.isEmpty State.requestReset)

/-- UNKNOWN_COMMAND (R168): the arguments are discarded, the status is BAD_ARGUMENT. -/
def execUnknownCommand (_code : Byte) (_args : List Byte) (s : State) : Host.Outcome State Fault Refusal :=
  .next (s.command true (State.refuse .badArgument))

/-- SPI_TRANSACTION_ABORTED (R168): no command is taken, no status returned; the bytes are discarded. -/
def execSpiTransactionAborted (_received : List Byte) (s : State) : Host.Outcome State Fault Refusal :=
  .next s.openTransaction

end Sys2Proof.Machine
end

