-- ==== Sys2Proof/Machine/Dispatch.lean ====
section
/-! DEFINITION. The meaning of every command: one arm per row of spec/opcode_table.json, in its order. A command changes everything
but the queue of waiting commands. -/

namespace Sys2Proof.Machine

def exec (i : Instr) (s : State) : Host.Outcome State Fault Refusal :=
  match i with
  | .reset strap encA encB => Sys2Proof.Machine.execReset strap encA encB s
  | .configWrite args => Sys2Proof.Machine.execConfigWrite args s
  | .start args => Sys2Proof.Machine.execStart args s
  | .statusRead args => Sys2Proof.Machine.execStatusRead args s
  | .eventRead args => Sys2Proof.Machine.execEventRead args s
  | .eventRecordClockedOut => Sys2Proof.Machine.execEventRecordClockedOut s
  | .faultClear args => Sys2Proof.Machine.execFaultClear args s
  | .countersRead args => Sys2Proof.Machine.execCountersRead args s
  | .pieceAnnounce args => Sys2Proof.Machine.execPieceAnnounce args s
  | .pieceWithdraw args => Sys2Proof.Machine.execPieceWithdraw args s
  | .trackRead args => Sys2Proof.Machine.execTrackRead args s
  | .trackFind args => Sys2Proof.Machine.execTrackFind args s
  | .trackInsert args => Sys2Proof.Machine.execTrackInsert args s
  | .trackRemove args => Sys2Proof.Machine.execTrackRemove args s
  | .looperRelease args => Sys2Proof.Machine.execLooperRelease args s
  | .trainStop args => Sys2Proof.Machine.execTrainStop args s
  | .trainResume args => Sys2Proof.Machine.execTrainResume args s
  | .busRelink args => Sys2Proof.Machine.execBusRelink args s
  | .softReset args => Sys2Proof.Machine.execSoftReset args s
  | .unknownCommand code args => Sys2Proof.Machine.execUnknownCommand code args s
  | .spiTransactionAborted received => Sys2Proof.Machine.execSpiTransactionAborted received s
  | .announceReceived src seq a => Sys2Proof.Machine.execAnnounceReceived src seq a s
  | .pieceEntryReceived src seq r => Sys2Proof.Machine.execPieceEntryReceived src seq r s
  | .pieceWithdrawReceived src seq tag => Sys2Proof.Machine.execPieceWithdrawReceived src seq tag s
  | .headBiteReceived src seq tag anonymous speed => Sys2Proof.Machine.execHeadBiteReceived src seq tag anonymous speed s
  | .tailOutReceived src seq tag anonymous => Sys2Proof.Machine.execTailOutReceived src seq tag anonymous s
  | .speedReportReceived src seq tag speed => Sys2Proof.Machine.execSpeedReportReceived src seq tag speed s
  | .handoffFaultReceived src seq tag code => Sys2Proof.Machine.execHandoffFaultReceived src seq tag code s
  | .trainStopReceived src seq level cause => Sys2Proof.Machine.execTrainStopReceived src seq level cause s
  | .trainResumeReceived src seq => Sys2Proof.Machine.execTrainResumeReceived src seq s
  | .rxFailedReception why => Sys2Proof.Machine.execRxFailedReception why s
  | .rxMalformed why => Sys2Proof.Machine.execRxMalformed why s
  | .attemptBegin slots => Sys2Proof.Machine.execAttemptBegin slots s
  | .attemptSuccess => Sys2Proof.Machine.execAttemptSuccess s
  | .attemptFail => Sys2Proof.Machine.execAttemptFail s
  | .announceTimerExpiry => Sys2Proof.Machine.execAnnounceTimerExpiry s
  | .linkTimeout => Sys2Proof.Machine.execLinkTimeout s
  | .encoderPulse channel => Sys2Proof.Machine.execEncoderPulse channel s
  | .sampleRecord bytes => Sys2Proof.Machine.execSampleRecord bytes s
  | .sampleLoss => Sys2Proof.Machine.execSampleLoss s
  | .encoderFault => Sys2Proof.Machine.execEncoderFault s
  | .pieceAged => Sys2Proof.Machine.execPieceAged s
  | .liftTimeout => Sys2Proof.Machine.execLiftTimeout s
  | .settleTimerExpiry => Sys2Proof.Machine.execSettleTimerExpiry s
  | .lowerTimeout => Sys2Proof.Machine.execLowerTimeout s
  | .holdOffExpiry => Sys2Proof.Machine.execHoldOffExpiry s
  | .reportAgeExpiry => Sys2Proof.Machine.execReportAgeExpiry s
  | .reportPeriodExpiry => Sys2Proof.Machine.execReportPeriodExpiry s
  | .bothChannelsChange => Sys2Proof.Machine.execBothChannelsChange s

end Sys2Proof.Machine
end

