-- ==== Sys2Proof/Safety.lean ====
section
/-! DEFINITION. What a safe state of the station is: the bounds and the agreements between blocks that the spec says always hold,
each under the rule that says it. `BusSafe` is about the train bus unit, `HandoffSafe` about the blocks of a hand-off, `EventsSafe`
about the event queue. -/

namespace Sys2Proof.Machine

/-! ### The train bus unit -/

/-- No queue holds more than its room (R33). -/
abbrev Bus.InRoom (b : Bus) : Prop :=
  b.stopQueue.length ≤ 2 ∧ b.eventQueue.length ≤ 8 ∧ b.reportQueue.length ≤ 1 ∧ b.linkQueue.length ≤ 1

/-- All four queues are empty. -/
abbrev Bus.Empty (b : Bus) : Prop := b.stopQueue = [] ∧ b.eventQueue = [] ∧ b.reportQueue = [] ∧ b.linkQueue = []

/-- Each telegram stands in the queue of its class (R33) and has failed at most three attempts (R41). -/
abbrev Bus.Sorted (b : Bus) : Prop :=
  (∀ q ∈ b.stopQueue, q.telegram.cls = .stop ∧ q.failed ≤ 3) ∧ (∀ q ∈ b.eventQueue, q.telegram.cls = .event ∧ q.failed ≤ 3) ∧
  (∀ q ∈ b.reportQueue, q.telegram.cls = .report ∧ q.failed ≤ 3) ∧ (∀ q ∈ b.linkQueue, q.telegram.cls = .link ∧ q.failed ≤ 3)

/-- A telegram still queued while its attempt is on the line heads the queue of its class, under the number of the attempt (R33, R37,
R42). -/
abbrev Bus.AttemptHeads (b : Bus) : Prop :=
  ∀ a ∈ b.attempt, a.queued = true → ∃ q ∈ (b.queue a.cls).head?, q.telegram = a.telegram ∧ q.seq = some a.seq

/-- The failure count is below 16 while ACTIVE and 16 while SILENT (R43), the good count at most 64 and below it while SILENT (R44,
R52). -/
abbrev Bus.Counted (b : Bus) : Prop :=
  (b.state = .active → b.failures ≤ 15) ∧ (b.state = .silent → b.failures = 16 ∧ b.good ≤ 63) ∧ b.good ≤ 64

/-- No idle period is counted, and no frame is being lost, while the station's own attempt is on the line (R38, R41). -/
abbrev Bus.LineAgrees (b : Bus) : Prop := b.attempt.isSome → b.line = .busy

/-- The train bus unit is as the rules of Chapter 3 keep it: its queues in their rooms, and empty, with no attempt on the line, while
it is SILENT or the station FAULTED (R28, R33, R43). -/
structure State.BusSafe (s : State) : Prop where
  inRoom : s.bus.InRoom
  sorted : s.bus.Sorted
  attemptHeads : s.bus.AttemptHeads
  lineAgrees : s.bus.LineAgrees
  counted : s.bus.Counted
  quiet : s.bus.state = .silent ∨ s.station.state = .faulted → s.bus.Empty ∧ s.bus.attempt = none

/-! ### The event queue -/

/-- The event queue holds at most 32 events (R173). -/
abbrev State.EventsSafe (s : State) : Prop := s.host.events.length ≤ 32

/-! ### The tracking table -/

/-- How far a phase is along (R56). -/
def Phase.rank : Phase → Nat
  | .announced => 0 | .approaching => 1 | .inStand => 2 | .tailApproaching => 3 | .cleared => 4

/-- No entry is in an earlier phase than one created after it (R59). -/
abbrev State.PhasesInOrder (s : State) : Prop := s.table.Pairwise fun older younger => younger.phase.rank ≤ older.phase.rank

/-- At most eight entries, and no two of them with the same nonzero tag (R60). -/
abbrev State.TableInRoom (s : State) : Prop :=
  s.table.length ≤ 8 ∧ s.table.Pairwise fun e f => e.tag = f.tag → e.tag = 0

/-- How many entries are in-stand. -/
def State.inStandCount (s : State) : Nat := s.table.countP Entry.isInStand

/-- The detector holds a load: LOADED or OFF_PENDING. -/
def DetectorState.holdsLoad : DetectorState → Bool
  | .loaded | .offPending _ _ => true
  | .unloaded | .onPending _ _ => false

/-- In RUNNING an entry is in-stand, and then just one, exactly while the detector is LOADED or OFF_PENDING; outside RUNNING the table
is empty (R61, R62). -/
abbrev State.InStandAgrees (s : State) : Prop :=
  (s.station.state = .running → s.inStandCount = if s.detector.state.holdsLoad then 1 else 0) ∧
  (s.station.state ≠ .running → s.table = [])

/-! ### The blocks of a hand-off -/

/-- A record is written in every state but CONFIGURING (R18, R19). -/
abbrev State.Configured (s : State) : Prop := s.station.state ≠ .configuring → s.station.config.isSome

/-- The detector is UNLOADED in CONFIGURING, LINKING and FAULTED (R96), and a verification is in progress only in RUNNING with a load
held (R101). -/
abbrev State.DetectorSafe (s : State) : Prop :=
  (s.detector.state = .unloaded ∨ s.station.state = .running ∨ s.station.state = .stopped) ∧
  (s.detector.verify = .idle ∨ (s.station.state = .running ∧ s.detector.state.holdsLoad))

/-- The in-stand entry is CONFIRMED. -/
abbrev State.InStandConfirmed (s : State) : Prop := ∃ e ∈ s.inStand?, e.downstream = .confirmed

/-- A looper in motion or ARMED is that of a RUNNING stand that drives one (R123); in LIFTING and REGULATING the in-stand entry is
CONFIRMED (R131). -/
abbrev State.LooperPlaced (s : State) : Prop :=
  (s.looper.state = .parked ∨ s.looper.state = .holdOff ∨
    (s.station.state = .running ∧ ∃ c ∈ s.station.config, drivesLooper c s.station.position = true)) ∧
  (s.looper.state = .lifting .rise ∨ s.looper.state = .lifting .settle ∨ s.looper.state = .regulating → s.InStandConfirmed)

/-- Each looper timer runs exactly in its state or phase (R124), the pending flags are set in LOWERING alone (R135), and the
integrator is 0 outside REGULATING (R132). -/
abbrev Looper.Tidy (l : Looper) : Prop :=
  (l.liftTimer.isSome ↔ l.state = .lifting .rise) ∧ (l.settleTimer.isSome ↔ l.state = .lifting .settle) ∧
  (l.lowerTimer.isSome ↔ l.state = .lowering) ∧ (l.holdOffTimer.isSome ↔ l.state = .holdOff) ∧
  (l.state ≠ .lowering → l.armPending = false ∧ l.liftPending = false) ∧ (l.state ≠ .regulating → l.integrator = 0)

/-- The integrator is at most the tension limit (R132). -/
abbrev State.IntegratorBounded (s : State) : Prop := ∀ c ∈ s.station.config, s.looper.integrator ≤ c.tensionLimit.toNat

/-- The items of each trim state are those of Table 8.1. -/
abbrev Trim.Tidy (t : Trim) : Prop :=
  (t.ageTimer.isSome ↔ t.state = .tracking) ∧ (t.state = .off → t.current = 0) ∧
  (t.state = .off ∨ t.state = .rampOut → t.target = 0 ∧ t.saturated = false)

/-- A trim out of OFF is that of a RUNNING stand that trims, for a CONFIRMED in-stand entry, and target and current trim lie within
the limit of that entry's own pass (R144, R148, R149). -/
abbrev State.TrimPlaced (s : State) : Prop :=
  s.trim.state = .off ∨
    (s.station.state = .running ∧ s.InStandConfirmed ∧
      ∃ c ∈ s.station.config, drivesLooper c s.station.position = true ∧
        ∀ e ∈ s.inStand?, ∀ own ∈ e.ownPass,
          s.trim.target.natAbs ≤ trimLimitOf c own ∧ s.trim.current.natAbs ≤ trimLimitOf c own)

/-- The blocks of a hand-off agree with one another as the rules of Chapters 4 to 8 keep them. -/
structure State.HandoffSafe (s : State) : Prop where
  tableInRoom : s.TableInRoom
  phasesInOrder : s.PhasesInOrder
  inStandAgrees : s.InStandAgrees
  configured : s.Configured
  detectorSafe : s.DetectorSafe
  looperPlaced : s.LooperPlaced
  looperTidy : s.looper.Tidy
  integratorBounded : s.IntegratorBounded
  trimTidy : s.trim.Tidy
  trimPlaced : s.TrimPlaced

end Sys2Proof.Machine
end

