-- ==== Sys2Proof/Laws/State.lean ====
section
/-! SUPPORT. One lemma per field per update: what each shared operation over the state leaves in each field of it. All of them are
true by rfl, so that no proof about a command needs to unfold an operation. -/

namespace Sys2Proof.Machine

/-! Raising an event (R173) -/

@[simp] theorem State.raise_strap (s : State) (k : EventKind) (tag d : Half) : (s.raise k tag d).strap = s.strap := rfl
@[simp] theorem State.raise_timeBase (s : State) (k : EventKind) (tag d : Half) : (s.raise k tag d).timeBase = s.timeBase := rfl
@[simp] theorem State.raise_station (s : State) (k : EventKind) (tag d : Half) : (s.raise k tag d).station = s.station := rfl
@[simp] theorem State.raise_bus (s : State) (k : EventKind) (tag d : Half) : (s.raise k tag d).bus = s.bus := rfl
@[simp] theorem State.raise_table (s : State) (k : EventKind) (tag d : Half) : (s.raise k tag d).table = s.table := rfl
@[simp] theorem State.raise_stand (s : State) (k : EventKind) (tag d : Half) : (s.raise k tag d).stand = s.stand := rfl
@[simp] theorem State.raise_detector (s : State) (k : EventKind) (tag d : Half) : (s.raise k tag d).detector = s.detector := rfl
@[simp] theorem State.raise_looper (s : State) (k : EventKind) (tag d : Half) : (s.raise k tag d).looper = s.looper := rfl
@[simp] theorem State.raise_trim (s : State) (k : EventKind) (tag d : Half) : (s.raise k tag d).trim = s.trim := rfl
@[simp] theorem State.raise_host (s : State) (k : EventKind) (tag d : Half) :
    (s.raise k tag d).host = s.host.raise { kind := k, tag := tag, detail := d, stamp := s.timeBase.setWidth 16 } := rfl
@[simp] theorem State.raise_freeCount (s : State) (k : EventKind) (tag d : Half) :
    (s.raise k tag d).freeCount = s.freeCount := rfl
@[simp] theorem State.raise_pending (s : State) (k : EventKind) (tag d : Half) : (s.raise k tag d).pending = s.pending := rfl

/-! Setting a latched flag (R176) -/

@[simp] theorem State.setFlag_strap (s : State) (f : LatchedFlag) : (s.setFlag f).strap = s.strap := rfl
@[simp] theorem State.setFlag_timeBase (s : State) (f : LatchedFlag) : (s.setFlag f).timeBase = s.timeBase := rfl
@[simp] theorem State.setFlag_station (s : State) (f : LatchedFlag) : (s.setFlag f).station = s.station := rfl
@[simp] theorem State.setFlag_bus (s : State) (f : LatchedFlag) : (s.setFlag f).bus = s.bus := rfl
@[simp] theorem State.setFlag_table (s : State) (f : LatchedFlag) : (s.setFlag f).table = s.table := rfl
@[simp] theorem State.setFlag_stand (s : State) (f : LatchedFlag) : (s.setFlag f).stand = s.stand := rfl
@[simp] theorem State.setFlag_detector (s : State) (f : LatchedFlag) : (s.setFlag f).detector = s.detector := rfl
@[simp] theorem State.setFlag_looper (s : State) (f : LatchedFlag) : (s.setFlag f).looper = s.looper := rfl
@[simp] theorem State.setFlag_trim (s : State) (f : LatchedFlag) : (s.setFlag f).trim = s.trim := rfl
@[simp] theorem State.setFlag_host (s : State) (f : LatchedFlag) : (s.setFlag f).host = s.host.setFlag f := rfl
@[simp] theorem State.setFlag_freeCount (s : State) (f : LatchedFlag) : (s.setFlag f).freeCount = s.freeCount := rfl
@[simp] theorem State.setFlag_pending (s : State) (f : LatchedFlag) : (s.setFlag f).pending = s.pending := rfl

/-! Answering a host command (R168) -/

@[simp] theorem State.respond_strap (s : State) (st : Status) (data : List Byte) : (s.respond st data).strap = s.strap := rfl
@[simp] theorem State.respond_timeBase (s : State) (st : Status) (data : List Byte) :
    (s.respond st data).timeBase = s.timeBase := rfl
@[simp] theorem State.respond_station (s : State) (st : Status) (data : List Byte) :
    (s.respond st data).station = s.station := rfl
@[simp] theorem State.respond_bus (s : State) (st : Status) (data : List Byte) : (s.respond st data).bus = s.bus := rfl
@[simp] theorem State.respond_table (s : State) (st : Status) (data : List Byte) : (s.respond st data).table = s.table := rfl
@[simp] theorem State.respond_stand (s : State) (st : Status) (data : List Byte) : (s.respond st data).stand = s.stand := rfl
@[simp] theorem State.respond_detector (s : State) (st : Status) (data : List Byte) :
    (s.respond st data).detector = s.detector := rfl
@[simp] theorem State.respond_looper (s : State) (st : Status) (data : List Byte) : (s.respond st data).looper = s.looper := rfl
@[simp] theorem State.respond_trim (s : State) (st : Status) (data : List Byte) : (s.respond st data).trim = s.trim := rfl
@[simp] theorem State.respond_host (s : State) (st : Status) (data : List Byte) :
    (s.respond st data).host = { s.host with response := some { status := st, data := data } } := rfl
@[simp] theorem State.respond_freeCount (s : State) (st : Status) (data : List Byte) :
    (s.respond st data).freeCount = s.freeCount := rfl
@[simp] theorem State.respond_pending (s : State) (st : Status) (data : List Byte) :
    (s.respond st data).pending = s.pending := rfl

/-! Answering without data (R181) -/

@[simp] theorem State.refuse_strap (s : State) (st : Status) : (s.refuse st).strap = s.strap := rfl
@[simp] theorem State.refuse_timeBase (s : State) (st : Status) : (s.refuse st).timeBase = s.timeBase := rfl
@[simp] theorem State.refuse_station (s : State) (st : Status) : (s.refuse st).station = s.station := rfl
@[simp] theorem State.refuse_bus (s : State) (st : Status) : (s.refuse st).bus = s.bus := rfl
@[simp] theorem State.refuse_table (s : State) (st : Status) : (s.refuse st).table = s.table := rfl
@[simp] theorem State.refuse_stand (s : State) (st : Status) : (s.refuse st).stand = s.stand := rfl
@[simp] theorem State.refuse_detector (s : State) (st : Status) : (s.refuse st).detector = s.detector := rfl
@[simp] theorem State.refuse_looper (s : State) (st : Status) : (s.refuse st).looper = s.looper := rfl
@[simp] theorem State.refuse_trim (s : State) (st : Status) : (s.refuse st).trim = s.trim := rfl
@[simp] theorem State.refuse_host (s : State) (st : Status) :
    (s.refuse st).host = { s.host with response := some { status := st, data := [] } } := rfl
@[simp] theorem State.refuse_freeCount (s : State) (st : Status) : (s.refuse st).freeCount = s.freeCount := rfl
@[simp] theorem State.refuse_pending (s : State) (st : Status) : (s.refuse st).pending = s.pending := rfl

/-! Moving the load detector (R97, R98) -/

@[simp] theorem State.withDetector_strap (s : State) (d : DetectorState) : (s.withDetector d).strap = s.strap := rfl
@[simp] theorem State.withDetector_timeBase (s : State) (d : DetectorState) : (s.withDetector d).timeBase = s.timeBase := rfl
@[simp] theorem State.withDetector_station (s : State) (d : DetectorState) : (s.withDetector d).station = s.station := rfl
@[simp] theorem State.withDetector_bus (s : State) (d : DetectorState) : (s.withDetector d).bus = s.bus := rfl
@[simp] theorem State.withDetector_table (s : State) (d : DetectorState) : (s.withDetector d).table = s.table := rfl
@[simp] theorem State.withDetector_stand (s : State) (d : DetectorState) : (s.withDetector d).stand = s.stand := rfl
@[simp] theorem State.withDetector_detector (s : State) (d : DetectorState) :
    (s.withDetector d).detector = { s.detector with state := d } := rfl
@[simp] theorem State.withDetector_looper (s : State) (d : DetectorState) : (s.withDetector d).looper = s.looper := rfl
@[simp] theorem State.withDetector_trim (s : State) (d : DetectorState) : (s.withDetector d).trim = s.trim := rfl
@[simp] theorem State.withDetector_host (s : State) (d : DetectorState) : (s.withDetector d).host = s.host := rfl
@[simp] theorem State.withDetector_freeCount (s : State) (d : DetectorState) : (s.withDetector d).freeCount = s.freeCount := rfl
@[simp] theorem State.withDetector_pending (s : State) (d : DetectorState) : (s.withDetector d).pending = s.pending := rfl

/-! Writing an entry (R58) -/

@[simp] theorem State.writeEntry_strap (s : State) (slot : Nat) (f : Entry → Entry) : (s.writeEntry slot f).strap = s.strap := rfl
@[simp] theorem State.writeEntry_timeBase (s : State) (slot : Nat) (f : Entry → Entry) :
    (s.writeEntry slot f).timeBase = s.timeBase := rfl
@[simp] theorem State.writeEntry_station (s : State) (slot : Nat) (f : Entry → Entry) :
    (s.writeEntry slot f).station = s.station := rfl
@[simp] theorem State.writeEntry_bus (s : State) (slot : Nat) (f : Entry → Entry) : (s.writeEntry slot f).bus = s.bus := rfl
@[simp] theorem State.writeEntry_table (s : State) (slot : Nat) (f : Entry → Entry) :
    (s.writeEntry slot f).table = s.table.modify slot fun e => { f e with age := 0 } := rfl
@[simp] theorem State.writeEntry_stand (s : State) (slot : Nat) (f : Entry → Entry) : (s.writeEntry slot f).stand = s.stand := rfl
@[simp] theorem State.writeEntry_detector (s : State) (slot : Nat) (f : Entry → Entry) :
    (s.writeEntry slot f).detector = s.detector := rfl
@[simp] theorem State.writeEntry_looper (s : State) (slot : Nat) (f : Entry → Entry) :
    (s.writeEntry slot f).looper = s.looper := rfl
@[simp] theorem State.writeEntry_trim (s : State) (slot : Nat) (f : Entry → Entry) : (s.writeEntry slot f).trim = s.trim := rfl
@[simp] theorem State.writeEntry_host (s : State) (slot : Nat) (f : Entry → Entry) : (s.writeEntry slot f).host = s.host := rfl
@[simp] theorem State.writeEntry_freeCount (s : State) (slot : Nat) (f : Entry → Entry) :
    (s.writeEntry slot f).freeCount = s.freeCount := rfl
@[simp] theorem State.writeEntry_pending (s : State) (slot : Nat) (f : Entry → Entry) :
    (s.writeEntry slot f).pending = s.pending := rfl

/-! Removing an entry (R59) -/

@[simp] theorem State.removeEntry_strap (s : State) (slot : Nat) : (s.removeEntry slot).strap = s.strap := rfl
@[simp] theorem State.removeEntry_timeBase (s : State) (slot : Nat) : (s.removeEntry slot).timeBase = s.timeBase := rfl
@[simp] theorem State.removeEntry_station (s : State) (slot : Nat) : (s.removeEntry slot).station = s.station := rfl
@[simp] theorem State.removeEntry_bus (s : State) (slot : Nat) : (s.removeEntry slot).bus = s.bus := rfl
@[simp] theorem State.removeEntry_table (s : State) (slot : Nat) : (s.removeEntry slot).table = s.table.eraseIdx slot := rfl
@[simp] theorem State.removeEntry_stand (s : State) (slot : Nat) : (s.removeEntry slot).stand = s.stand := rfl
@[simp] theorem State.removeEntry_detector (s : State) (slot : Nat) : (s.removeEntry slot).detector = s.detector := rfl
@[simp] theorem State.removeEntry_looper (s : State) (slot : Nat) : (s.removeEntry slot).looper = s.looper := rfl
@[simp] theorem State.removeEntry_trim (s : State) (slot : Nat) : (s.removeEntry slot).trim = s.trim := rfl
@[simp] theorem State.removeEntry_host (s : State) (slot : Nat) : (s.removeEntry slot).host = s.host := rfl
@[simp] theorem State.removeEntry_freeCount (s : State) (slot : Nat) : (s.removeEntry slot).freeCount = s.freeCount := rfl
@[simp] theorem State.removeEntry_pending (s : State) (slot : Nat) : (s.removeEntry slot).pending = s.pending := rfl

/-! Withdrawing an entry (R66, R79, R80, R84) -/

@[simp] theorem State.withdrawEntry_strap (s : State) (slot : Nat) (e : Entry) (r : WithdrawReason) :
    (s.withdrawEntry slot e r).strap = s.strap := rfl
@[simp] theorem State.withdrawEntry_timeBase (s : State) (slot : Nat) (e : Entry) (r : WithdrawReason) :
    (s.withdrawEntry slot e r).timeBase = s.timeBase := rfl
@[simp] theorem State.withdrawEntry_station (s : State) (slot : Nat) (e : Entry) (r : WithdrawReason) :
    (s.withdrawEntry slot e r).station = s.station := rfl
@[simp] theorem State.withdrawEntry_bus (s : State) (slot : Nat) (e : Entry) (r : WithdrawReason) :
    (s.withdrawEntry slot e r).bus = s.bus := rfl
@[simp] theorem State.withdrawEntry_table (s : State) (slot : Nat) (e : Entry) (r : WithdrawReason) :
    (s.withdrawEntry slot e r).table = s.table.eraseIdx slot := rfl
@[simp] theorem State.withdrawEntry_stand (s : State) (slot : Nat) (e : Entry) (r : WithdrawReason) :
    (s.withdrawEntry slot e r).stand = s.stand := rfl
@[simp] theorem State.withdrawEntry_detector (s : State) (slot : Nat) (e : Entry) (r : WithdrawReason) :
    (s.withdrawEntry slot e r).detector = s.detector := rfl
@[simp] theorem State.withdrawEntry_looper (s : State) (slot : Nat) (e : Entry) (r : WithdrawReason) :
    (s.withdrawEntry slot e r).looper = s.looper := rfl
@[simp] theorem State.withdrawEntry_trim (s : State) (slot : Nat) (e : Entry) (r : WithdrawReason) :
    (s.withdrawEntry slot e r).trim = s.trim := rfl
@[simp] theorem State.withdrawEntry_host (s : State) (slot : Nat) (e : Entry) (r : WithdrawReason) :
    (s.withdrawEntry slot e r).host = s.host.raise { kind := .pieceWithdrawn, tag := e.tag, detail := r.code, stamp := s.timeBase.setWidth 16 } := rfl
@[simp] theorem State.withdrawEntry_freeCount (s : State) (slot : Nat) (e : Entry) (r : WithdrawReason) :
    (s.withdrawEntry slot e r).freeCount = s.freeCount := rfl
@[simp] theorem State.withdrawEntry_pending (s : State) (slot : Nat) (e : Entry) (r : WithdrawReason) :
    (s.withdrawEntry slot e r).pending = s.pending := rfl

/-! Retiring an entry (R72, R75) -/

@[simp] theorem State.retireEntry_strap (s : State) (slot : Nat) (e : Entry) : (s.retireEntry slot e).strap = s.strap := rfl
@[simp] theorem State.retireEntry_timeBase (s : State) (slot : Nat) (e : Entry) :
    (s.retireEntry slot e).timeBase = s.timeBase := rfl
@[simp] theorem State.retireEntry_station (s : State) (slot : Nat) (e : Entry) : (s.retireEntry slot e).station = s.station := rfl
@[simp] theorem State.retireEntry_bus (s : State) (slot : Nat) (e : Entry) : (s.retireEntry slot e).bus = s.bus := rfl
@[simp] theorem State.retireEntry_table (s : State) (slot : Nat) (e : Entry) :
    (s.retireEntry slot e).table = s.table.eraseIdx slot := rfl
@[simp] theorem State.retireEntry_stand (s : State) (slot : Nat) (e : Entry) : (s.retireEntry slot e).stand = s.stand := rfl
@[simp] theorem State.retireEntry_detector (s : State) (slot : Nat) (e : Entry) :
    (s.retireEntry slot e).detector = s.detector := rfl
@[simp] theorem State.retireEntry_looper (s : State) (slot : Nat) (e : Entry) : (s.retireEntry slot e).looper = s.looper := rfl
@[simp] theorem State.retireEntry_trim (s : State) (slot : Nat) (e : Entry) : (s.retireEntry slot e).trim = s.trim := rfl
@[simp] theorem State.retireEntry_host (s : State) (slot : Nat) (e : Entry) :
    (s.retireEntry slot e).host = s.host.raise { kind := .pieceRetired, tag := e.tag, detail := e.downstream.code.setWidth 16, stamp := s.timeBase.setWidth 16 } := rfl
@[simp] theorem State.retireEntry_freeCount (s : State) (slot : Nat) (e : Entry) :
    (s.retireEntry slot e).freeCount = s.freeCount := rfl
@[simp] theorem State.retireEntry_pending (s : State) (slot : Nat) (e : Entry) : (s.retireEntry slot e).pending = s.pending := rfl

/-! Refusing a piece (R4, R5, R60) -/

@[simp] theorem State.refusePiece_strap (s : State) (tag : Half) (r : RefuseReason) : (s.refusePiece tag r).strap = s.strap := rfl
@[simp] theorem State.refusePiece_timeBase (s : State) (tag : Half) (r : RefuseReason) :
    (s.refusePiece tag r).timeBase = s.timeBase := rfl
@[simp] theorem State.refusePiece_station (s : State) (tag : Half) (r : RefuseReason) :
    (s.refusePiece tag r).station = s.station := rfl
@[simp] theorem State.refusePiece_bus (s : State) (tag : Half) (r : RefuseReason) : (s.refusePiece tag r).bus = s.bus := rfl
@[simp] theorem State.refusePiece_table (s : State) (tag : Half) (r : RefuseReason) : (s.refusePiece tag r).table = s.table := rfl
@[simp] theorem State.refusePiece_stand (s : State) (tag : Half) (r : RefuseReason) : (s.refusePiece tag r).stand = s.stand := rfl
@[simp] theorem State.refusePiece_detector (s : State) (tag : Half) (r : RefuseReason) :
    (s.refusePiece tag r).detector = s.detector := rfl
@[simp] theorem State.refusePiece_looper (s : State) (tag : Half) (r : RefuseReason) :
    (s.refusePiece tag r).looper = s.looper := rfl
@[simp] theorem State.refusePiece_trim (s : State) (tag : Half) (r : RefuseReason) : (s.refusePiece tag r).trim = s.trim := rfl
@[simp] theorem State.refusePiece_host (s : State) (tag : Half) (r : RefuseReason) :
    (s.refusePiece tag r).host = s.host.raise { kind := .pieceRefused, tag := tag, detail := r.detail, stamp := s.timeBase.setWidth 16 } := rfl
@[simp] theorem State.refusePiece_freeCount (s : State) (tag : Half) (r : RefuseReason) :
    (s.refusePiece tag r).freeCount = s.freeCount := rfl
@[simp] theorem State.refusePiece_pending (s : State) (tag : Half) (r : RefuseReason) :
    (s.refusePiece tag r).pending = s.pending := rfl

/-! An unexpected frame (R183) -/

@[simp] theorem State.unexpected_strap (s : State) (kind : BitVec 4) (src : Fin 10) (r : FrameReason) (tag : Half) :
    (s.unexpected kind src r tag).strap = s.strap := rfl
@[simp] theorem State.unexpected_timeBase (s : State) (kind : BitVec 4) (src : Fin 10) (r : FrameReason) (tag : Half) :
    (s.unexpected kind src r tag).timeBase = s.timeBase := rfl
@[simp] theorem State.unexpected_station (s : State) (kind : BitVec 4) (src : Fin 10) (r : FrameReason) (tag : Half) :
    (s.unexpected kind src r tag).station = s.station := rfl
@[simp] theorem State.unexpected_bus (s : State) (kind : BitVec 4) (src : Fin 10) (r : FrameReason) (tag : Half) :
    (s.unexpected kind src r tag).bus = s.bus := rfl
@[simp] theorem State.unexpected_table (s : State) (kind : BitVec 4) (src : Fin 10) (r : FrameReason) (tag : Half) :
    (s.unexpected kind src r tag).table = s.table := rfl
@[simp] theorem State.unexpected_stand (s : State) (kind : BitVec 4) (src : Fin 10) (r : FrameReason) (tag : Half) :
    (s.unexpected kind src r tag).stand = s.stand := rfl
@[simp] theorem State.unexpected_detector (s : State) (kind : BitVec 4) (src : Fin 10) (r : FrameReason) (tag : Half) :
    (s.unexpected kind src r tag).detector = s.detector := rfl
@[simp] theorem State.unexpected_looper (s : State) (kind : BitVec 4) (src : Fin 10) (r : FrameReason) (tag : Half) :
    (s.unexpected kind src r tag).looper = s.looper := rfl
@[simp] theorem State.unexpected_trim (s : State) (kind : BitVec 4) (src : Fin 10) (r : FrameReason) (tag : Half) :
    (s.unexpected kind src r tag).trim = s.trim := rfl
@[simp] theorem State.unexpected_host (s : State) (kind : BitVec 4) (src : Fin 10) (r : FrameReason) (tag : Half) :
    (s.unexpected kind src r tag).host = s.host.raise { kind := .unexpectedFrame, tag := tag, detail := (kind ++ nibble src ++ r.code : BitVec 16), stamp := s.timeBase.setWidth 16 } := rfl
@[simp] theorem State.unexpected_freeCount (s : State) (kind : BitVec 4) (src : Fin 10) (r : FrameReason) (tag : Half) :
    (s.unexpected kind src r tag).freeCount = s.freeCount := rfl
@[simp] theorem State.unexpected_pending (s : State) (kind : BitVec 4) (src : Fin 10) (r : FrameReason) (tag : Half) :
    (s.unexpected kind src r tag).pending = s.pending := rfl

/-! Counting a good telegram (R53) -/

@[simp] theorem State.countRxGood_strap (s : State) : (s.countRxGood).strap = s.strap := rfl
@[simp] theorem State.countRxGood_timeBase (s : State) : (s.countRxGood).timeBase = s.timeBase := rfl
@[simp] theorem State.countRxGood_station (s : State) : (s.countRxGood).station = s.station := rfl
@[simp] theorem State.countRxGood_bus (s : State) :
    (s.countRxGood).bus = { s.bus with counters := { s.bus.counters with rxGood := satAdd s.bus.counters.rxGood 1 } } := rfl
@[simp] theorem State.countRxGood_table (s : State) : (s.countRxGood).table = s.table := rfl
@[simp] theorem State.countRxGood_stand (s : State) : (s.countRxGood).stand = s.stand := rfl
@[simp] theorem State.countRxGood_detector (s : State) : (s.countRxGood).detector = s.detector := rfl
@[simp] theorem State.countRxGood_looper (s : State) : (s.countRxGood).looper = s.looper := rfl
@[simp] theorem State.countRxGood_trim (s : State) : (s.countRxGood).trim = s.trim := rfl
@[simp] theorem State.countRxGood_host (s : State) : (s.countRxGood).host = s.host := rfl
@[simp] theorem State.countRxGood_freeCount (s : State) : (s.countRxGood).freeCount = s.freeCount := rfl
@[simp] theorem State.countRxGood_pending (s : State) : (s.countRxGood).pending = s.pending := rfl

/-! Setting an expectation (R49) -/

@[simp] theorem State.setExpect_strap (s : State) (src : Fin 10) (seq : Byte) : (s.setExpect src seq).strap = s.strap := rfl
@[simp] theorem State.setExpect_timeBase (s : State) (src : Fin 10) (seq : Byte) :
    (s.setExpect src seq).timeBase = s.timeBase := rfl
@[simp] theorem State.setExpect_station (s : State) (src : Fin 10) (seq : Byte) : (s.setExpect src seq).station = s.station := rfl
@[simp] theorem State.setExpect_bus (s : State) (src : Fin 10) (seq : Byte) :
    (s.setExpect src seq).bus = { s.bus with expect := s.bus.expect.set src (some seq) } := rfl
@[simp] theorem State.setExpect_table (s : State) (src : Fin 10) (seq : Byte) : (s.setExpect src seq).table = s.table := rfl
@[simp] theorem State.setExpect_stand (s : State) (src : Fin 10) (seq : Byte) : (s.setExpect src seq).stand = s.stand := rfl
@[simp] theorem State.setExpect_detector (s : State) (src : Fin 10) (seq : Byte) :
    (s.setExpect src seq).detector = s.detector := rfl
@[simp] theorem State.setExpect_looper (s : State) (src : Fin 10) (seq : Byte) : (s.setExpect src seq).looper = s.looper := rfl
@[simp] theorem State.setExpect_trim (s : State) (src : Fin 10) (seq : Byte) : (s.setExpect src seq).trim = s.trim := rfl
@[simp] theorem State.setExpect_host (s : State) (src : Fin 10) (seq : Byte) : (s.setExpect src seq).host = s.host := rfl
@[simp] theorem State.setExpect_freeCount (s : State) (src : Fin 10) (seq : Byte) :
    (s.setExpect src seq).freeCount = s.freeCount := rfl
@[simp] theorem State.setExpect_pending (s : State) (src : Fin 10) (seq : Byte) : (s.setExpect src seq).pending = s.pending := rfl

/-! Changing an acquisition line (R23, R24) -/

@[simp] theorem State.mapLine_strap (s : State) (src : Fin 10) (f : AcqLine → AcqLine) : (s.mapLine src f).strap = s.strap := rfl
@[simp] theorem State.mapLine_timeBase (s : State) (src : Fin 10) (f : AcqLine → AcqLine) :
    (s.mapLine src f).timeBase = s.timeBase := rfl
@[simp] theorem State.mapLine_station (s : State) (src : Fin 10) (f : AcqLine → AcqLine) :
    (s.mapLine src f).station = { s.station with lines := s.station.lines.map fun l => if l.position = src then f l else l } := rfl
@[simp] theorem State.mapLine_bus (s : State) (src : Fin 10) (f : AcqLine → AcqLine) : (s.mapLine src f).bus = s.bus := rfl
@[simp] theorem State.mapLine_table (s : State) (src : Fin 10) (f : AcqLine → AcqLine) : (s.mapLine src f).table = s.table := rfl
@[simp] theorem State.mapLine_stand (s : State) (src : Fin 10) (f : AcqLine → AcqLine) : (s.mapLine src f).stand = s.stand := rfl
@[simp] theorem State.mapLine_detector (s : State) (src : Fin 10) (f : AcqLine → AcqLine) :
    (s.mapLine src f).detector = s.detector := rfl
@[simp] theorem State.mapLine_looper (s : State) (src : Fin 10) (f : AcqLine → AcqLine) :
    (s.mapLine src f).looper = s.looper := rfl
@[simp] theorem State.mapLine_trim (s : State) (src : Fin 10) (f : AcqLine → AcqLine) : (s.mapLine src f).trim = s.trim := rfl
@[simp] theorem State.mapLine_host (s : State) (src : Fin 10) (f : AcqLine → AcqLine) : (s.mapLine src f).host = s.host := rfl
@[simp] theorem State.mapLine_freeCount (s : State) (src : Fin 10) (f : AcqLine → AcqLine) :
    (s.mapLine src f).freeCount = s.freeCount := rfl
@[simp] theorem State.mapLine_pending (s : State) (src : Fin 10) (f : AcqLine → AcqLine) :
    (s.mapLine src f).pending = s.pending := rfl

/-! Entering STOPPED (R163) -/

@[simp] theorem State.enterStopped_strap (s : State) : (s.enterStopped).strap = s.strap := rfl
@[simp] theorem State.enterStopped_timeBase (s : State) : (s.enterStopped).timeBase = s.timeBase := rfl
@[simp] theorem State.enterStopped_station (s : State) : (s.enterStopped).station = { s.station with state := .stopped } := rfl
@[simp] theorem State.enterStopped_bus (s : State) : (s.enterStopped).bus = s.bus.flushForStop := rfl
@[simp] theorem State.enterStopped_table (s : State) : (s.enterStopped).table = [] := rfl
@[simp] theorem State.enterStopped_stand (s : State) : (s.enterStopped).stand = s.stand := rfl
@[simp] theorem State.enterStopped_detector (s : State) : (s.enterStopped).detector = { s.detector with verify := .idle } := rfl
@[simp] theorem State.enterStopped_looper (s : State) : (s.enterStopped).looper = s.looper.toStopped := rfl
@[simp] theorem State.enterStopped_trim (s : State) : (s.enterStopped).trim = s.trim.toOff := rfl
@[simp] theorem State.enterStopped_host (s : State) : (s.enterStopped).host = s.host := rfl
@[simp] theorem State.enterStopped_freeCount (s : State) : (s.enterStopped).freeCount = s.freeCount := rfl
@[simp] theorem State.enterStopped_pending (s : State) : (s.enterStopped).pending = s.pending := rfl

/-! Entering FAULTED (R28) -/

@[simp] theorem State.enterFaulted_strap (s : State) (cause : FaultCause) (src : Fin 10) :
    (s.enterFaulted cause src).strap = s.strap := rfl
@[simp] theorem State.enterFaulted_timeBase (s : State) (cause : FaultCause) (src : Fin 10) :
    (s.enterFaulted cause src).timeBase = s.timeBase := rfl
@[simp] theorem State.enterFaulted_station (s : State) (cause : FaultCause) (src : Fin 10) :
    (s.enterFaulted cause src).station = { s.station with state := .faulted, fault := some (cause, src), announceTimer := none, linkTimer := none } := rfl
@[simp] theorem State.enterFaulted_bus (s : State) (cause : FaultCause) (src : Fin 10) :
    (s.enterFaulted cause src).bus = { s.bus.flushAll with attempt := none } := rfl
@[simp] theorem State.enterFaulted_table (s : State) (cause : FaultCause) (src : Fin 10) :
    (s.enterFaulted cause src).table = [] := rfl
@[simp] theorem State.enterFaulted_stand (s : State) (cause : FaultCause) (src : Fin 10) :
    (s.enterFaulted cause src).stand = { s.stand with sampleTimer := none, stallTimer := none, sampleLoss := false, encoderStall := false } := rfl
@[simp] theorem State.enterFaulted_detector (s : State) (cause : FaultCause) (src : Fin 10) :
    (s.enterFaulted cause src).detector = Detector.reset := rfl
@[simp] theorem State.enterFaulted_looper (s : State) (cause : FaultCause) (src : Fin 10) :
    (s.enterFaulted cause src).looper = { s.looper.park with holdOffTimer := none } := rfl
@[simp] theorem State.enterFaulted_trim (s : State) (cause : FaultCause) (src : Fin 10) :
    (s.enterFaulted cause src).trim = s.trim.toOff := rfl
@[simp] theorem State.enterFaulted_host (s : State) (cause : FaultCause) (src : Fin 10) :
    (s.enterFaulted cause src).host = s.host.raise { kind := .stationFaulted, tag := 0, detail := detail cause.code (byteOf src.val), stamp := s.timeBase.setWidth 16 } := rfl
@[simp] theorem State.enterFaulted_freeCount (s : State) (cause : FaultCause) (src : Fin 10) :
    (s.enterFaulted cause src).freeCount = s.freeCount := rfl
@[simp] theorem State.enterFaulted_pending (s : State) (cause : FaultCause) (src : Fin 10) :
    (s.enterFaulted cause src).pending = s.pending := rfl

/-! Entering RUNNING from LINKING (R24) -/

@[simp] theorem State.enterRunning_strap (s : State) : (s.enterRunning).strap = s.strap := rfl
@[simp] theorem State.enterRunning_timeBase (s : State) : (s.enterRunning).timeBase = s.timeBase := rfl
@[simp] theorem State.enterRunning_station (s : State) :
    (s.enterRunning).station = { s.station with state := .running, announceTimer := none, linkTimer := none } := rfl
@[simp] theorem State.enterRunning_bus (s : State) : (s.enterRunning).bus = s.bus := rfl
@[simp] theorem State.enterRunning_table (s : State) : (s.enterRunning).table = s.table := rfl
@[simp] theorem State.enterRunning_stand (s : State) : (s.enterRunning).stand = s.stand := rfl
@[simp] theorem State.enterRunning_detector (s : State) : (s.enterRunning).detector = s.detector := rfl
@[simp] theorem State.enterRunning_looper (s : State) : (s.enterRunning).looper = s.looper := rfl
@[simp] theorem State.enterRunning_trim (s : State) : (s.enterRunning).trim = s.trim := rfl
@[simp] theorem State.enterRunning_host (s : State) :
    (s.enterRunning).host = s.host.raise { kind := .linked, tag := 0, detail := 0, stamp := s.timeBase.setWidth 16 } := rfl
@[simp] theorem State.enterRunning_freeCount (s : State) : (s.enterRunning).freeCount = s.freeCount := rfl
@[simp] theorem State.enterRunning_pending (s : State) : (s.enterRunning).pending = s.pending := rfl

/-! Entering SILENT (R43) -/

@[simp] theorem State.enterSilent_strap (s : State) : (s.enterSilent).strap = s.strap := rfl
@[simp] theorem State.enterSilent_timeBase (s : State) : (s.enterSilent).timeBase = s.timeBase := rfl
@[simp] theorem State.enterSilent_station (s : State) : (s.enterSilent).station = s.station := rfl
@[simp] theorem State.enterSilent_bus (s : State) :
    (s.enterSilent).bus = { s.bus.flushAll with state := .silent, good := 0 } := rfl
@[simp] theorem State.enterSilent_table (s : State) : (s.enterSilent).table = s.table := rfl
@[simp] theorem State.enterSilent_stand (s : State) : (s.enterSilent).stand = s.stand := rfl
@[simp] theorem State.enterSilent_detector (s : State) : (s.enterSilent).detector = s.detector := rfl
@[simp] theorem State.enterSilent_looper (s : State) : (s.enterSilent).looper = s.looper := rfl
@[simp] theorem State.enterSilent_trim (s : State) : (s.enterSilent).trim = s.trim := rfl
@[simp] theorem State.enterSilent_host (s : State) :
    (s.enterSilent).host = s.host.raise { kind := .busSilent, tag := 0, detail := 0, stamp := s.timeBase.setWidth 16 } := rfl
@[simp] theorem State.enterSilent_freeCount (s : State) : (s.enterSilent).freeCount = s.freeCount := rfl
@[simp] theorem State.enterSilent_pending (s : State) : (s.enterSilent).pending = s.pending := rfl

/-! Leaving SILENT (R44, R45) -/

@[simp] theorem State.leaveSilent_strap (s : State) (why : Half) : (s.leaveSilent why).strap = s.strap := rfl
@[simp] theorem State.leaveSilent_timeBase (s : State) (why : Half) : (s.leaveSilent why).timeBase = s.timeBase := rfl
@[simp] theorem State.leaveSilent_station (s : State) (why : Half) : (s.leaveSilent why).station = s.station := rfl
@[simp] theorem State.leaveSilent_bus (s : State) (why : Half) :
    (s.leaveSilent why).bus = { s.bus with state := .active, failures := 0, good := 0 } := rfl
@[simp] theorem State.leaveSilent_table (s : State) (why : Half) : (s.leaveSilent why).table = s.table := rfl
@[simp] theorem State.leaveSilent_stand (s : State) (why : Half) : (s.leaveSilent why).stand = s.stand := rfl
@[simp] theorem State.leaveSilent_detector (s : State) (why : Half) : (s.leaveSilent why).detector = s.detector := rfl
@[simp] theorem State.leaveSilent_looper (s : State) (why : Half) : (s.leaveSilent why).looper = s.looper := rfl
@[simp] theorem State.leaveSilent_trim (s : State) (why : Half) : (s.leaveSilent why).trim = s.trim := rfl
@[simp] theorem State.leaveSilent_host (s : State) (why : Half) :
    (s.leaveSilent why).host = s.host.raise { kind := .busActive, tag := 0, detail := why, stamp := s.timeBase.setWidth 16 } := rfl
@[simp] theorem State.leaveSilent_freeCount (s : State) (why : Half) : (s.leaveSilent why).freeCount = s.freeCount := rfl
@[simp] theorem State.leaveSilent_pending (s : State) (why : Half) : (s.leaveSilent why).pending = s.pending := rfl

/-! Holding the trim (R152) -/

@[simp] theorem State.holdTrim_strap (s : State) (tag : Half) (r : HoldReason) : (s.holdTrim tag r).strap = s.strap := rfl
@[simp] theorem State.holdTrim_timeBase (s : State) (tag : Half) (r : HoldReason) :
    (s.holdTrim tag r).timeBase = s.timeBase := rfl
@[simp] theorem State.holdTrim_station (s : State) (tag : Half) (r : HoldReason) : (s.holdTrim tag r).station = s.station := rfl
@[simp] theorem State.holdTrim_bus (s : State) (tag : Half) (r : HoldReason) : (s.holdTrim tag r).bus = s.bus := rfl
@[simp] theorem State.holdTrim_table (s : State) (tag : Half) (r : HoldReason) : (s.holdTrim tag r).table = s.table := rfl
@[simp] theorem State.holdTrim_stand (s : State) (tag : Half) (r : HoldReason) : (s.holdTrim tag r).stand = s.stand := rfl
@[simp] theorem State.holdTrim_detector (s : State) (tag : Half) (r : HoldReason) :
    (s.holdTrim tag r).detector = s.detector := rfl
@[simp] theorem State.holdTrim_looper (s : State) (tag : Half) (r : HoldReason) : (s.holdTrim tag r).looper = s.looper := rfl
@[simp] theorem State.holdTrim_trim (s : State) (tag : Half) (r : HoldReason) :
    (s.holdTrim tag r).trim = { s.trim with state := .held, ageTimer := none } := rfl
@[simp] theorem State.holdTrim_host (s : State) (tag : Half) (r : HoldReason) :
    (s.holdTrim tag r).host = s.host.raise { kind := .trimHeld, tag := tag, detail := r.detail, stamp := s.timeBase.setWidth 16 } := rfl
@[simp] theorem State.holdTrim_freeCount (s : State) (tag : Half) (r : HoldReason) :
    (s.holdTrim tag r).freeCount = s.freeCount := rfl
@[simp] theorem State.holdTrim_pending (s : State) (tag : Half) (r : HoldReason) : (s.holdTrim tag r).pending = s.pending := rfl

/-! Entering REGULATING (R131) -/

@[simp] theorem State.regulate_strap (s : State) : (s.regulate).strap = s.strap := rfl
@[simp] theorem State.regulate_timeBase (s : State) : (s.regulate).timeBase = s.timeBase := rfl
@[simp] theorem State.regulate_station (s : State) : (s.regulate).station = s.station := rfl
@[simp] theorem State.regulate_bus (s : State) : (s.regulate).bus = s.bus := rfl
@[simp] theorem State.regulate_table (s : State) : (s.regulate).table = s.table := rfl
@[simp] theorem State.regulate_stand (s : State) : (s.regulate).stand = s.stand := rfl
@[simp] theorem State.regulate_detector (s : State) : (s.regulate).detector = s.detector := rfl
@[simp] theorem State.regulate_looper (s : State) :
    (s.regulate).looper = { s.looper with state := .regulating, liftTimer := none, settleTimer := none, integrator := 0 } := rfl
@[simp] theorem State.regulate_trim (s : State) : (s.regulate).trim = s.trim := rfl
@[simp] theorem State.regulate_host (s : State) :
    (s.regulate).host = s.host.raise { kind := .handoffDone, tag := s.looper.served, detail := 0, stamp := s.timeBase.setWidth 16 } := rfl
@[simp] theorem State.regulate_freeCount (s : State) : (s.regulate).freeCount = s.freeCount := rfl
@[simp] theorem State.regulate_pending (s : State) : (s.regulate).pending = s.pending := rfl

/-! Answering a sample (R90) -/

@[simp] theorem State.answer_strap (s : State) (seq : Byte) : (s.answer seq).strap = s.strap := rfl
@[simp] theorem State.answer_timeBase (s : State) (seq : Byte) : (s.answer seq).timeBase = s.timeBase := rfl
@[simp] theorem State.answer_station (s : State) (seq : Byte) : (s.answer seq).station = s.station := rfl
@[simp] theorem State.answer_bus (s : State) (seq : Byte) : (s.answer seq).bus = s.bus := rfl
@[simp] theorem State.answer_table (s : State) (seq : Byte) : (s.answer seq).table = s.table := rfl
@[simp] theorem State.answer_stand (s : State) (seq : Byte) :
    (s.answer seq).stand = { s.stand with sent := some (s.commandRecord seq) } := rfl
@[simp] theorem State.answer_detector (s : State) (seq : Byte) : (s.answer seq).detector = s.detector := rfl
@[simp] theorem State.answer_looper (s : State) (seq : Byte) : (s.answer seq).looper = s.looper := rfl
@[simp] theorem State.answer_trim (s : State) (seq : Byte) : (s.answer seq).trim = s.trim := rfl
@[simp] theorem State.answer_host (s : State) (seq : Byte) : (s.answer seq).host = s.host := rfl
@[simp] theorem State.answer_freeCount (s : State) (seq : Byte) : (s.answer seq).freeCount = s.freeCount := rfl
@[simp] theorem State.answer_pending (s : State) (seq : Byte) : (s.answer seq).pending = s.pending := rfl

/-! Dropping a telegram (R35, R41) -/

@[simp] theorem State.dropTelegram_strap (s : State) (t : Telegram) (why : Byte) : (s.dropTelegram t why).strap = s.strap := rfl
@[simp] theorem State.dropTelegram_timeBase (s : State) (t : Telegram) (why : Byte) :
    (s.dropTelegram t why).timeBase = s.timeBase := rfl
@[simp] theorem State.dropTelegram_station (s : State) (t : Telegram) (why : Byte) :
    (s.dropTelegram t why).station = s.station := rfl
@[simp] theorem State.dropTelegram_bus (s : State) (t : Telegram) (why : Byte) :
    (s.dropTelegram t why).bus = { s.bus with counters := { s.bus.counters with txDrop := satAdd s.bus.counters.txDrop 1 } } := rfl
@[simp] theorem State.dropTelegram_table (s : State) (t : Telegram) (why : Byte) : (s.dropTelegram t why).table = s.table := rfl
@[simp] theorem State.dropTelegram_stand (s : State) (t : Telegram) (why : Byte) : (s.dropTelegram t why).stand = s.stand := rfl
@[simp] theorem State.dropTelegram_detector (s : State) (t : Telegram) (why : Byte) :
    (s.dropTelegram t why).detector = s.detector := rfl
@[simp] theorem State.dropTelegram_looper (s : State) (t : Telegram) (why : Byte) :
    (s.dropTelegram t why).looper = s.looper := rfl
@[simp] theorem State.dropTelegram_trim (s : State) (t : Telegram) (why : Byte) : (s.dropTelegram t why).trim = s.trim := rfl
@[simp] theorem State.dropTelegram_host (s : State) (t : Telegram) (why : Byte) :
    (s.dropTelegram t why).host = (s.host.raise { kind := .txDrop, tag := t.tag, detail := detail (t.kind.setWidth 8) why, stamp := s.timeBase.setWidth 16 }).setFlag .txDrop := rfl
@[simp] theorem State.dropTelegram_freeCount (s : State) (t : Telegram) (why : Byte) :
    (s.dropTelegram t why).freeCount = s.freeCount := rfl
@[simp] theorem State.dropTelegram_pending (s : State) (t : Telegram) (why : Byte) :
    (s.dropTelegram t why).pending = s.pending := rfl

/-! A reset (R29) -/

@[simp] theorem State.resetTo_pending (strap : BitVec 4) (a b : Bool) (s : State) : (s.resetTo strap a b).pending = s.pending := rfl
@[simp] theorem State.resetTo_freeCount (strap : BitVec 4) (a b : Bool) (s : State) :
    (s.resetTo strap a b).freeCount = s.freeCount := rfl
@[simp] theorem State.resetTo_table (strap : BitVec 4) (a b : Bool) (s : State) : (s.resetTo strap a b).table = [] := rfl
@[simp] theorem State.resetTo_station (strap : BitVec 4) (a b : Bool) (s : State) :
    (s.resetTo strap a b).station = Station.reset strap := rfl
@[simp] theorem State.resetTo_bus (strap : BitVec 4) (a b : Bool) (s : State) : (s.resetTo strap a b).bus = Bus.reset := rfl
@[simp] theorem State.resetTo_stand (strap : BitVec 4) (a b : Bool) (s : State) :
    (s.resetTo strap a b).stand = Stand.reset a b := rfl
@[simp] theorem State.resetTo_detector (strap : BitVec 4) (a b : Bool) (s : State) :
    (s.resetTo strap a b).detector = Detector.reset := rfl
@[simp] theorem State.resetTo_looper (strap : BitVec 4) (a b : Bool) (s : State) :
    (s.resetTo strap a b).looper = Looper.reset := rfl
@[simp] theorem State.resetTo_trim (strap : BitVec 4) (a b : Bool) (s : State) : (s.resetTo strap a b).trim = Trim.reset := rfl
@[simp] theorem State.resetTo_host (strap : BitVec 4) (a b : Bool) (s : State) :
    (s.resetTo strap a b).host = HostPort.reset := rfl

/-! The line (R30, R38) -/

@[simp] theorem State.withLine_strap (s : State) (l : LineState) : (s.withLine l).strap = s.strap := rfl
@[simp] theorem State.withLine_timeBase (s : State) (l : LineState) : (s.withLine l).timeBase = s.timeBase := rfl
@[simp] theorem State.withLine_station (s : State) (l : LineState) : (s.withLine l).station = s.station := rfl
@[simp] theorem State.withLine_bus (s : State) (l : LineState) : (s.withLine l).bus = { s.bus with line := l } := rfl
@[simp] theorem State.withLine_table (s : State) (l : LineState) : (s.withLine l).table = s.table := rfl
@[simp] theorem State.withLine_stand (s : State) (l : LineState) : (s.withLine l).stand = s.stand := rfl
@[simp] theorem State.withLine_detector (s : State) (l : LineState) : (s.withLine l).detector = s.detector := rfl
@[simp] theorem State.withLine_looper (s : State) (l : LineState) : (s.withLine l).looper = s.looper := rfl
@[simp] theorem State.withLine_trim (s : State) (l : LineState) : (s.withLine l).trim = s.trim := rfl
@[simp] theorem State.withLine_host (s : State) (l : LineState) : (s.withLine l).host = s.host := rfl
@[simp] theorem State.withLine_freeCount (s : State) (l : LineState) : (s.withLine l).freeCount = s.freeCount := rfl
@[simp] theorem State.withLine_pending (s : State) (l : LineState) : (s.withLine l).pending = s.pending := rfl

/-! Beginning an attempt (R37, R38) -/

@[simp] theorem State.beginAttempt_strap (s : State) (cls : TxClass) (q : Queued) : (s.beginAttempt cls q).strap = s.strap := rfl
@[simp] theorem State.beginAttempt_timeBase (s : State) (cls : TxClass) (q : Queued) :
    (s.beginAttempt cls q).timeBase = s.timeBase := rfl
@[simp] theorem State.beginAttempt_station (s : State) (cls : TxClass) (q : Queued) :
    (s.beginAttempt cls q).station = s.station := rfl
@[simp] theorem State.beginAttempt_bus (s : State) (cls : TxClass) (q : Queued) :
    (s.beginAttempt cls q).bus = s.bus.begin cls q := rfl
@[simp] theorem State.beginAttempt_table (s : State) (cls : TxClass) (q : Queued) : (s.beginAttempt cls q).table = s.table := rfl
@[simp] theorem State.beginAttempt_stand (s : State) (cls : TxClass) (q : Queued) : (s.beginAttempt cls q).stand = s.stand := rfl
@[simp] theorem State.beginAttempt_detector (s : State) (cls : TxClass) (q : Queued) :
    (s.beginAttempt cls q).detector = s.detector := rfl
@[simp] theorem State.beginAttempt_looper (s : State) (cls : TxClass) (q : Queued) : (s.beginAttempt cls q).looper = s.looper := rfl
@[simp] theorem State.beginAttempt_trim (s : State) (cls : TxClass) (q : Queued) : (s.beginAttempt cls q).trim = s.trim := rfl
@[simp] theorem State.beginAttempt_host (s : State) (cls : TxClass) (q : Queued) : (s.beginAttempt cls q).host = s.host := rfl
@[simp] theorem State.beginAttempt_freeCount (s : State) (cls : TxClass) (q : Queued) :
    (s.beginAttempt cls q).freeCount = s.freeCount := rfl
@[simp] theorem State.beginAttempt_pending (s : State) (cls : TxClass) (q : Queued) :
    (s.beginAttempt cls q).pending = s.pending := rfl

/-- The line is set once: the last setting stands. -/
@[simp] theorem State.withLine_withLine (s : State) (l m : LineState) : (s.withLine l).withLine m = s.withLine m := rfl

/-- A line set to what it was. -/
@[simp] theorem State.withLine_self (s : State) : s.withLine s.bus.line = s := rfl

/-- An attempt begins whatever the slot count was. -/
@[simp] theorem State.withLine_beginAttempt (s : State) (l : LineState) (cls : TxClass) (q : Queued) :
    (s.withLine l).beginAttempt cls q = s.beginAttempt cls q := by cases cls <;> rfl

end Sys2Proof.Machine
end

