-- ==== Sys2Proof/WellFormed.lean ====
section
/-! DEFINITION. Which terms of `Instr` the outside can send. The types already rule out most of the rest (a source position above
9); what is left is a byte count, a piece record's pass count and a command code. -/

namespace Sys2Proof

open Machine

/-- The argument length of a transaction is one byte (R181). -/
def argsOk (args : List Byte) : Bool := args.length ≤ 255

/-- A PIECE_ENTRY payload is 5 + 9 × c bytes and at most 96 (R31, R32), so c is at most 10. -/
def Machine.PieceRecord.fitsTelegram (r : PieceRecord) : Bool := 5 + 9 * r.passes.length ≤ 96

/-- The command codes are 1 to 17 (R181); every other code is unknown (R168). -/
def unknownCode (code : Byte) : Bool := code = 0 || 17 < code.toNat

/-- The bytes of a transaction that ends before its command is complete (R168): no code, a code alone, or fewer argument bytes
than the length byte announces. -/
def incompleteTransaction : List Byte → Bool
  | [] => true
  | [_] => true
  | _ :: len :: args => args.length < len.toNat

/-- A command the outside can send. -/
def Instr.wellFormed : Instr → Bool
  | .configWrite args | .start args | .statusRead args | .eventRead args | .faultClear args | .countersRead args
  | .pieceAnnounce args | .pieceWithdraw args | .trackRead args | .trackFind args | .trackInsert args | .trackRemove args
  | .looperRelease args | .trainStop args | .trainResume args | .busRelink args | .softReset args => argsOk args
  | .unknownCommand code args => unknownCode code && argsOk args
  | .spiTransactionAborted received => incompleteTransaction received
  | .pieceEntryReceived _ _ r => r.fitsTelegram
  | .reset _ _ _ | .eventRecordClockedOut | .announceReceived _ _ _ | .pieceWithdrawReceived _ _ _
  | .headBiteReceived _ _ _ _ _ | .tailOutReceived _ _ _ _ | .speedReportReceived _ _ _ _ | .handoffFaultReceived _ _ _ _
  | .trainStopReceived _ _ _ _ | .trainResumeReceived _ _ | .rxFailedReception _ | .rxMalformed _ | .attemptBegin _
  | .attemptSuccess | .attemptFail | .announceTimerExpiry | .linkTimeout | .encoderPulse _ | .sampleRecord _ | .sampleLoss
  | .encoderFault | .pieceAged | .liftTimeout | .settleTimerExpiry | .lowerTimeout | .holdOffExpiry | .reportAgeExpiry
  | .reportPeriodExpiry | .bothChannelsChange => true

end Sys2Proof
end

