-- ==== Sys2Proof/Certificates/Slice0/Obligations.lean ====
section
/-! DEFINITION. The statements for the provers, each a `def Obligations.<Name> : Prop`; OBLIGATIONS.json lists them. A command's next
state is written out from the rules: the fields named change as said and, the equation being one of whole states, every other field
(the waiting commands among them) stays as it was. `raise`, `setFlag` and `queueTelegram` stand for the rules of the event queue, of the
latched flags and of the transmit queues, which statements of their own give. -/

namespace Sys2Proof.Machine

/-! ### Words the statements share -/

/-- s once its host port has answered a transaction's command with a status and data. -/
def State.answered (status : Status) (data : List Byte) (s : State) : State :=
  { s with host := { s.host with reading := .idle, response := some { status := status, data := data } } }

/-- s once a new transaction has begun and its command is taken, before the answer. -/
def State.opened (s : State) : State := { s with host := { s.host with reading := .idle, response := none } }

/-- s once a good telegram is counted (R44, R52), the line idle after it unless the station's own attempt is on it (R39). In SILENT the
64th in a row makes the bus unit ACTIVE, both counts 0, with BUS_ACTIVE and the detail RECEPTION. -/
def State.goodCounted (s : State) : State :=
  let ends : Prop := s.bus.state = .silent ∧ 63 ≤ s.bus.good
  { s with
    bus := { s.bus with
      line := if s.bus.attempt.isSome then s.bus.line else .idle 0
      state := if ends then .active else s.bus.state
      failures := if ends then 0 else s.bus.failures
      good := if ends then 0 else min 64 (s.bus.good + 1) }
    host := if ends then (s.raise .busActive 0 0).host else s.host }

/-- s once its bus unit has accepted a telegram with this sequence number from this source (R49, R52, R53). -/
def State.accepted (src : Fin 10) (seq : Byte) (s : State) : State :=
  { s.goodCounted with bus := { s.goodCounted.bus with
    counters := { s.bus.counters with rxGood := satAdd s.bus.counters.rxGood 1 }
    expect := s.bus.expect.set src (some seq) } }

/-- A good telegram with this source and number is from another station, the first from it or in sequence, and not in the rest of a frame
in which the station's own attempt has failed. -/
structure State.Hears (s : State) (src : Fin 10) (seq : Byte) : Prop where
  other : src.val ≠ s.station.position.toNat
  inSequence : ∀ last ∈ s.bus.expect[src], seq = last + 1
  listens : s.bus.line ≠ .lost

/-- The station is RUNNING under record c. -/
structure State.Runs (s : State) (c : ConfigRecord) : Prop where
  running : s.station.state = .running
  config : s.station.config = some c

/-- A telegram is an ANNOUNCE with the linking flag set. -/
def Telegram.isLinking : Telegram → Bool
  | .announce a => a.linking
  | .pieceEntry _ | .pieceWithdraw _ | .headBite _ _ _ | .tailOut _ _ | .speedReport _ _ | .handoffFault _ _ | .trainStop _ _
  | .trainResume => false

/-- What the block that an accepted telegram is dispatched to does with it (Table 3.7): nothing in CONFIGURING and FAULTED (R51), and
outside RUNNING nothing with the telegrams of the tracking engine and the trim calculator. -/
def Telegram.dispatched (src : Fin 10) (t : Telegram) (s : State) : State :=
  if s.station.state = .linking ∨ s.station.state = .running ∨ s.station.state = .stopped then
    match t with
    | .announce a => s.takeAnnounce src a
    | .pieceEntry r => s.whenRunning fun c s => s.takePieceEntry c src r
    | .pieceWithdraw tag => s.whenRunning fun _ s => s.takePieceWithdraw src tag
    | .headBite tag anonymous speed => s.whenRunning fun c s => s.takeHeadBite c src tag anonymous speed
    | .tailOut tag anonymous => s.whenRunning fun c s => s.takeTailOut c src tag anonymous
    | .speedReport tag speed => s.whenRunning fun c s => s.takeSpeedReport c src tag speed
    | .handoffFault tag code => s.whenRunning fun c s => s.takeHandoffFault c src tag code
    | .trainStop level cause => s.takeStop src level cause
    | .trainResume => s.takeResume (BitVec.ofNat 4 src.val)
  else s

/-- s with the line idle and its slot count at n. -/
def State.idleAt (n : Fin 44) (s : State) : State := { s with bus := { s.bus with line := .idle n } }

/-- s once one millisecond is counted (R9, R58): the time base one on, every running timer one tick nearer its end, the entries in an aging
phase one millisecond older, and a frame that was lost at its end (log 15). -/
def State.ticked (s : State) : State :=
  { s with
    timeBase := s.timeBase + 1
    station := { s.station with
      announceTimer := s.station.announceTimer.map (· - 1), linkTimer := s.station.linkTimer.map (· - 1) }
    bus := { s.bus with line := if s.bus.line = .lost then .busy else s.bus.line }
    table := s.table.map fun e => { e with
      age := if (e.phase = .announced ∧ e.origin = .bus) ∨ e.phase = .cleared then e.age + 1 else e.age }
    stand := { s.stand with
      sampleTimer := s.stand.sampleTimer.map (· - 1), stallTimer := s.stand.stallTimer.map (· - 1)
      sinceSample := min 65535 (s.stand.sinceSample + 1)
      sincePulse := s.stand.sincePulse.map fun n => min 65535 (n + 1) }
    looper := { s.looper with
      liftTimer := s.looper.liftTimer.map (· - 1), settleTimer := s.looper.settleTimer.map (· - 1)
      lowerTimer := s.looper.lowerTimer.map (· - 1), holdOffTimer := s.looper.holdOffTimer.map (· - 1) }
    trim := { s.trim with ageTimer := s.trim.ageTimer.map (· - 1), reportTimer := s.trim.reportTimer.map (· - 1) } }

/-- The commands that are due once a millisecond is counted, in the order of the table (log 2): one for each timer at its end, SAMPLE_LOSS
where no loss stands (R91), ENCODER_FAULT where the stall check finds a stall (R93), and one PIECE_AGED for each entry in an aging phase
whose age has reached the limit (R81). -/
def State.expiries (s : State) : List Instr :=
  let taken : Prop := s.station.state = .linking ∨ s.station.state = .running ∨ s.station.state = .stopped
  (if s.station.announceTimer = some 0 then [.announceTimerExpiry] else []) ++
  (if s.station.linkTimer = some 0 then [.linkTimeout] else []) ++
  (if taken ∧ s.stand.sampleTimer = some 0 ∧ s.stand.sampleLoss = false then [.sampleLoss] else []) ++
  (if taken ∧ s.stand.stallTimer = some 0 ∧ (s.stand.latest.any fun x => 500 ≤ x.speed.toNat) = true ∧
      s.stand.sampleLoss = false ∧ s.stand.encoderStall = false then [.encoderFault] else []) ++
  (match s.station.config with
    | some c => (s.table.filter fun e => ((e.phase = .announced ∧ e.origin = .bus) ∨ e.phase = .cleared) ∧
        1000 * c.ageLimit.toNat ≤ e.age).map fun _ => .pieceAged
    | none => []) ++
  (if s.looper.liftTimer = some 0 then [.liftTimeout] else []) ++
  (if s.looper.settleTimer = some 0 then [.settleTimerExpiry] else []) ++
  (if s.looper.lowerTimer = some 0 then [.lowerTimeout] else []) ++
  (if s.looper.holdOffTimer = some 0 then [.holdOffExpiry] else []) ++
  (if s.trim.ageTimer = some 0 then [.reportAgeExpiry] else []) ++
  (if s.trim.reportTimer = some 0 then [.reportPeriodExpiry] else [])

/-- Field i of a configuration record lies in its range of Table 2.3. -/
def ConfigRecord.FieldInRange (c : ConfigRecord) : Nat → Prop
  | 1 => 1 ≤ c.trainId.toNat ∧ c.trainId.toNat ≤ 65535
  | 2 => 1 ≤ c.trainSize.toNat ∧ c.trainSize.toNat ≤ 8
  | 3 => c.exitPresent = 0 ∨ c.exitPresent = 1
  | 4 => 5 ≤ c.reportPeriod.toNat ∧ c.reportPeriod.toNat ≤ 100
  | 5 => 10 ≤ c.announcePeriod.toNat ∧ c.announcePeriod.toNat ≤ 200
  | 6 => 1 ≤ c.linkTimeout.toNat ∧ c.linkTimeout.toNat ≤ 60
  | 7 => c.mode = 0 ∨ c.mode = 1
  | 8 => 1000 ≤ c.lUp.toNat ∧ c.lUp.toNat ≤ 12000
  | 9 => 1000 ≤ c.lDn.toNat ∧ c.lDn.toNat ≤ 12000
  | 10 => 10000 ≤ c.upp.toNat ∧ c.upp.toNat ≤ 8000000
  | 11 => 1 ≤ c.fOn.toNat ∧ c.fOn.toNat ≤ 60000
  | 12 => 1 ≤ c.fOff.toNat ∧ c.fOff.toNat ≤ c.fOn.toNat
  | 13 => 4 ≤ c.nOn.toNat ∧ c.nOn.toNat ≤ 1023
  | 14 => 4 ≤ c.nOff.toNat ∧ c.nOff.toNat ≤ 1023
  | 15 => 10 ≤ c.forceTolerance.toNat ∧ c.forceTolerance.toNat ≤ 500
  | 16 => 5 ≤ c.windowTolerance.toNat ∧ c.windowTolerance.toNat ≤ 200
  | 17 => c.armLead.toNat ≤ 65535
  | 18 => c.tailLead.toNat ≤ 65535
  | 19 => 50 ≤ c.workingAngle.toNat ∧ c.workingAngle.toNat ≤ 800
  | 20 => c.parkAngle.toNat ≤ c.workingAngle.toNat - 50
  | 21 => 50 ≤ c.liftTime.toNat ∧ c.liftTime.toNat ≤ 3000
  | 22 => c.settleTime.toNat ≤ 1000
  | 23 => 50 ≤ c.lowerTime.toNat ∧ c.lowerTime.toNat ≤ 3000
  | 24 => 100 ≤ c.holdOff.toNat ∧ c.holdOff.toNat ≤ 10000
  | 25 => 10 ≤ c.tensionBand.toNat ∧ c.tensionBand.toNat ≤ 500
  | 26 => 64 ≤ c.tensionLimit.toNat ∧ c.tensionLimit.toNat ≤ 16368
  | 27 => c.trimLimit.toNat ≤ 100
  | 28 => 1 ≤ c.trimStep.toNat ∧ c.trimStep.toNat ≤ 255
  | 29 => 2 ≤ c.sampleTimeout.toNat ∧ c.sampleTimeout.toNat ≤ 20
  | 30 => 10 ≤ c.encoderStall.toNat ∧ c.encoderStall.toNat ≤ 200
  | 31 => 1 ≤ c.ageLimit.toNat ∧ c.ageLimit.toNat ≤ 600
  | 32 => 1 ≤ c.stopThreshold.toNat ∧ c.stopThreshold.toNat ≤ 8
  | 33 => c.autoStopHeadLost.toNat ≤ 7
  | 34 => c.autoStopLooper.toNat ≤ 7
  | 35 => c.irqThreshold.toNat ≤ 3
  | 36 => c.faultEnables.toNat ≤ 2047
  | _ => True

/-- The payload length of a kind that has one length (Table 3.1): every kind but PIECE_ENTRY, 2. -/
def payloadLength : Nat → Nat
  | 1 => 11 | 3 => 2 | 4 => 5 | 5 => 3 | 6 => 4 | 7 => 3 | 8 => 2
  | _ => 0

/-- A payload length disagrees with the telegram's kind; for PIECE_ENTRY, with the pass count that the payload carries (R47). -/
def lengthDisagrees (kind : Nat) (payload : List Byte) : Prop :=
  if kind = 2 then payload.length < 5 ∨ payload.length ≠ 5 + 9 * (payload.getD 2 0).toNat
  else payload.length ≠ payloadLength kind

/-- A sample record as Table 11.3 lays it out, with the bits of the flags byte that the table does not define. -/
def Sample.record (x : Sample) (unused : BitVec 7) : List Byte :=
  let fields := [x.seq] ++ bytes16 x.force ++ bytes16 x.speed ++ bytes16 x.angle ++ bytes16 x.tension ++
    [(unused ++ BitVec.ofBool x.detector : BitVec 8)]
  [0xA5] ++ fields ++ bytes16 (crc16 fields)

/-- A pass in an entry record (Table 11.6), an absent one as zeros. -/
def passField : Option PassEntry → List Byte
  | some p => bytes16 p.exitThickness ++ [p.forwardSlip] ++ bytes16 p.speedRef ++ bytes16 p.expectedForce ++ bytes16 p.tensionRef
  | none => List.replicate 9 0

/-- A mark in an entry record (Table 11.6), an absent one as 0. -/
def markField (m : Option Nat) : List Byte := bytes32 (BitVec.ofNat 32 (m.getD 0))

/-- A line of the acquisition table in a status record (Table 11.5); one that is not there as zeros (log 16). -/
def lineField : Option AcqLine → List Byte
  | some l => [BitVec.ofNat 8 l.position.val, (if l.relation = .downstream then 0x80 else 0) + l.state.code, BitVec.ofNat 8 l.agreements]
  | none => [0, 0, 0]

/-- s once a gap of this size from this source is counted, reported and noticed: in LINKING a neighbour in SEEK begins its row again
(R23), in RUNNING a gap from the downstream neighbour marks the entries whose head is awaited in a window (R76). -/
def State.gapNoticed (src : Fin 10) (gap : Byte) (s : State) : State :=
  State.raise .seqGap 0 (half (BitVec.ofNat 8 src.val) gap) { s with
    bus := { s.bus with counters := { s.bus.counters with seqGaps := satAdd s.bus.counters.seqGaps gap.toNat } }
    station := { s.station with
      lines := if s.station.state = .linking then
          s.station.lines.map fun l => if l.position = src ∧ l.state = .seek then { l with agreements := 0 } else l
        else s.station.lines }
    table := if s.station.state = .running ∧ s.isDownstream src = true then
        s.table.map fun e =>
          if (e.downstream = .pending ∨ e.downstream = .inWindow) ∧ e.flags.downstreamGap = false then
            { e with flags := { e.flags with downstreamGap := true }, age := 0 }
          else e
      else s.table }

/-- s once it has entered FAULTED for a cause that the telegram of a source position made (R28): the cause recorded, the queues and the
table empty, the attempt cut off, the detector, the looper and the trim at rest, and STATION_FAULTED raised. -/
def State.faultedBy (cause : FaultCause) (src : Fin 10) (s : State) : State :=
  State.raise .stationFaulted 0 (half cause.code (BitVec.ofNat 8 src.val)) { s with
    station := { s.station with
      state := .faulted, fault := some (cause, src), announceTimer := none, linkTimer := none }
    bus := { s.bus with stopQueue := [], eventQueue := [], reportQueue := [], linkQueue := [], attempt := none }
    table := []
    stand := { s.stand with sampleTimer := none, stallTimer := none, sampleLoss := false, encoderStall := false }
    detector := { state := .unloaded, verify := .idle }
    looper := { s.looper with
      state := .parked, liftTimer := none, settleTimer := none, lowerTimer := none, holdOffTimer := none, integrator := 0,
      armPending := false, liftPending := false }
    trim := { state := .off, target := 0, current := 0, ageTimer := none, saturated := false, reportTimer := none } }

/-- The looper of a station that enters STOPPED (R141): parked at once, but for a hold-off, which runs on. -/
def Looper.stopped (l : Looper) : Looper :=
  if l.state = .parked ∨ l.state = .holdOff then l
  else { l with
    state := .parked, liftTimer := none, settleTimer := none, lowerTimer := none, integrator := 0, armPending := false,
    liftPending := false }

/-- s once it has entered STOPPED (R163, Table 9.1): the table empty, the verification abandoned, the looper parked, the trim OFF, the
EVENT queue left with its HANDOFF_FAULT telegrams and the REPORT queue empty, an attempt on the line running on (R164). -/
def State.stopped (s : State) : State :=
  { s with
    station := { s.station with state := .stopped }
    bus := { s.bus with
      eventQueue := s.bus.eventQueue.filter fun q => q.telegram.kind = 7
      reportQueue := []
      attempt := s.bus.attempt.map fun a =>
        if a.cls = .report ∨ (a.cls = .event ∧ a.telegram.kind ≠ 7) then { a with queued := false } else a }
    table := []
    detector := { s.detector with verify := .idle }
    looper := s.looper.stopped
    trim := { state := .off, target := 0, current := 0, ageTimer := none, saturated := false, reportTimer := none } }

/-- k is the slot of the first entry with tag t. -/
abbrev State.Names (s : State) (t : Half) (k : Nat) (e : Entry) : Prop :=
  t ≠ 0 ∧ s.table[k]? = some e ∧ e.tag = t ∧ ∀ j < k, ∀ f ∈ s.table[j]?, f.tag ≠ t

/-- Tag t is 0 or that of no entry. -/
abbrev State.Unknown (s : State) (t : Half) : Prop := t = 0 ∨ ∀ e ∈ s.table, e.tag ≠ t

/-- k is the slot of the oldest entry with this property. -/
abbrev State.Oldest (s : State) (p : Entry → Prop) (k : Nat) (e : Entry) : Prop :=
  s.table[k]? = some e ∧ p e ∧ ∀ j < k, ∀ f ∈ s.table[j]?, ¬ p f

/-- The age of the entry at slot k starts again (R58). -/
def State.refreshed (k : Nat) (s : State) : State := { s with table := s.table.modify k fun e => { e with age := 0 } }

/-- UNEXPECTED_FRAME with its detail (R183). -/
def State.frameUnexpected (kind : BitVec 4) (src : Fin 10) (reason : Byte) (t : Half) (s : State) : State :=
  s.raise .unexpectedFrame t (kind ++ BitVec.ofNat 4 src.val ++ reason : BitVec 16)

/-- The ANNOUNCED entries older than slot k leave the table, oldest first, each with PIECE_WITHDRAWN and the reason PASSED (R66). -/
def State.passedOver (k : Nat) (s : State) : State :=
  ((s.table.take k).filter fun e => e.phase = .announced).foldl (fun u e => u.raise .pieceWithdrawn e.tag 0)
    { s with table := ((s.table.take k).filter fun e => e.phase ≠ .announced) ++ s.table.drop k }

/-- A neighbour line as START makes it. -/
def neighbourLine (relation : Relation) (position : Fin 10) : AcqLine :=
  { position := position, relation := relation, state := .seek, agreements := 0 }

/-- The age of the oldest entry with tag t, where t is not 0 and there is one, starts again (R58). -/
def State.touched (t : Half) (s : State) : State :=
  if t = 0 then s
  else
    match s.table.findIdx? fun e => e.tag = t with
    | some k => s.refreshed k
    | none => s

/-- A new entry as R63 and R65 list it. -/
def announcedEntry (c : ConfigRecord) (position : BitVec 4) (origin : Origin) (r : PieceRecord) : Entry :=
  { tag := r.tag, origin := origin, phase := .announced, barThickness := some r.barThickness
    window := some (passWindow c position r), downstream := .noHead, verification := .unchecked
    flags := { tailSeen := false, downstreamGap := false, tagMismatch := false, lateLift := false, unsupervised := false,
               trimFaultHeld := false }
    biteStamp := none, headMarks := none, tailStamp := none, tailMarks := none, age := 0 }

/-- Pass i of a record of an N-stand train fails this check of Table 1.3. -/
abbrev PieceRecord.failsIn (r : PieceRecord) (n i check : Nat) : Prop :=
  ∃ p ∈ r.passes[i - 1]?, 1 ≤ i ∧
    ((check = 4 ∧ (p.exitThickness.toNat < 500 ∨ 40000 < p.exitThickness.toNat)) ∨
     (check = 5 ∧ (if i = 1 then r.barThickness < p.exitThickness
       else ∃ before ∈ r.passes[i - 2]?, before.exitThickness < p.exitThickness)) ∨
     (check = 6 ∧ 150 < p.forwardSlip.toNat) ∨
     (check = 7 ∧ (p.speedRef.toNat < 300 ∨ 25000 < p.speedRef.toNat)) ∨
     (check = 8 ∧ 60000 < p.expectedForce.toNat) ∨
     (check = 9 ∧ if i < n then p.tensionRef = 0 ∨ 2000 < p.tensionRef.toNat else p.tensionRef ≠ 0))

/-- PIECE_ANNOUNCE or TRACK_INSERT. -/
def pieceCommand (announce : Bool) (args : List Byte) : Instr := if announce then .pieceAnnounce args else .trackInsert args

/-- The tag a bite or tail telegram is taken with: 0 where its anonymous flag is set (R62). -/
def takenTag (anonymous : Bool) (t : Half) : Half := if anonymous then 0 else t

/-- The downstream status is one of the four awaiting ones. -/
abbrev Entry.awaits (e : Entry) : Prop :=
  e.downstream = .pending ∨ e.downstream = .inWindow ∨ e.downstream = .untimed ∨ e.downstream = .unconfirmed

/-- The origin of an entry whose phase has changed: MANUAL becomes BUS (R56). -/
def Origin.moved (o : Origin) : Origin := if o = .manual then .bus else o

/-- The slot that the entry at slot k has once the ANNOUNCED entries older than it have left. -/
def State.slotAfter (k : Nat) (s : State) : Nat := ((s.table.take k).filter fun e => e.phase ≠ .announced).length

/-- The entry takes an upstream TAIL_OUT before it has bitten (R68): APPROACHING, tail-seen, its tail stamp the current position. -/
def Entry.withTail (s : State) (e : Entry) : Entry :=
  { e with
    phase := .approaching, origin := e.origin.moved, flags := { e.flags with tailSeen := true }
    tailStamp := some { position := s.stand.pulse, void := s.stand.encoderStall }, age := 0 }

/-- The in-stand entry takes an upstream TAIL_OUT (R67): TAIL_APPROACHING, and, but at the EXIT station, where the phase change alone is
made (log 27), its tail stamp the current position, and the tail marks that its role and window give it, none while the encoder-stall
condition stands (R120). -/
def Entry.withTailMarks (c : ConfigRecord) (s : State) (e : Entry) : Entry :=
  let f := { e with phase := .tailApproaching, origin := e.origin.moved, age := 0 }
  let g := { f with tailStamp := some { position := s.stand.pulse, void := s.stand.encoderStall } }
  if s.station.position = 9 then f
  else { g with tailMarks := if s.stand.encoderStall then none else g.tailMarksAt c s.station.position }

/-- s once the entry e at slot k is CONFIRMED by a downstream HEAD_BITE taken with tag t (R74). -/
def State.headConfirmed (c : ConfigRecord) (k : Nat) (e : Entry) (t speed : Half) (s : State) : State :=
  let mismatch : Bool := e.tag != 0 && t != 0 && e.tag != t
  let f := { e with
    downstream := .confirmed, headMarks := none
    flags := { e.flags with tagMismatch := e.flags.tagMismatch || mismatch }, age := 0 }
  let v : State := { s with table := s.table.set k f }
  let v := if mismatch then v.raise .tagMismatch e.tag t else v
  let v :=
    if e.downstream = .pending then
      v.raise .headEarly e.tag (sat16 ((e.biteStamp.map fun p => distance s.stand.pulse p).getD 0))
    else if e.downstream = .unconfirmed then v.raise .biteTooLate e.tag 1
    else v
  if e.phase = .inStand ∨ e.phase = .tailApproaching then (v.looperConfirmed c f).trimConfirmed c f speed else v

/-- Of marks with their values and reached indications, listed in the order of Table 6.3, those not yet reached whose value the distance
equals or exceeds, in that order (R12, R112). -/
def reachedOf (d : Nat) (marks : List (Nat × Mark × Bool)) : List (Nat × Mark) :=
  (marks.filter fun m => m.2.2 = false ∧ m.1 ≤ d).map fun m => (m.1, m.2.1)

/-- The in-stand entry: at slot k, this one. -/
abbrev State.InStandIs (s : State) (k : Nat) (e : Entry) : Prop :=
  s.Oldest (fun e => e.phase = .inStand ∨ e.phase = .tailApproaching) k e

/-- The station drives a looper and trims (R123, R144): a STAND below stand N in mode FULL. -/
abbrev State.Trims (s : State) (c : ConfigRecord) : Prop :=
  1 ≤ s.station.position.toNat ∧ s.station.position.toNat ≤ 8 ∧ s.station.position.toNat < c.trainSize.toNat ∧ c.mode = 0

/-- A SPEED_REPORT or HANDOFF_FAULT from this position with this tag is one for the in-stand entry e at slot k (R150, R153). -/
structure State.TrimHears (s : State) (src : Fin 10) (t : Half) (k : Nat) (e : Entry) : Prop where
  downstream : s.isDownstream src = true
  inStand : s.InStandIs k e
  matched : t = e.tag ∨ t = 0

/-- s once its trim has its target computed from a downstream speed (R146, R147), the trim entering or staying in TRACKING and the report
age timer started: TRIM_SATURATED where the raw trim is clamped and the saturation flag was clear. -/
def State.tracked (c : ConfigRecord) (tag : Half) (own down : PassEntry) (vd : Half) (s : State) : State :=
  let lim : Int := own.speedRef.toNat * c.trimLimit.toNat / 1000
  let raw : Int := (matchingSpeed vd.toNat down.exitThickness.toNat down.forwardSlip.toNat own.exitThickness.toNat
    own.forwardSlip.toNat : Int) - own.speedRef.toNat
  let v : State := { s with trim := { s.trim with
    state := .tracking, ageTimer := some (4 * c.reportPeriod.toNat), target := max (-lim) (min lim raw)
    saturated := decide (raw < -lim ∨ lim < raw) } }
  if (raw < -lim ∨ lim < raw) ∧ s.trim.saturated = false then
    v.raise .trimSaturated tag ((if lim < raw then 0 else 0x8000) + BitVec.ofInt 16 lim)
  else v

/-- The telegram that the bus unit would send: the head of its highest-priority queue that is not empty (R33). -/
abbrev Bus.Heads (b : Bus) (cls : TxClass) (q : Queued) (rest : List Queued) : Prop :=
  b.queue cls = q :: rest ∧ ∀ higher : TxClass, higher.number < cls.number → b.queue higher = []

/-- The bus unit in SILENT: its queues empty, its good count 0 (R43). -/
def Bus.silenced (b : Bus) : Bus :=
  { b with stopQueue := [], eventQueue := [], reportQueue := [], linkQueue := [], state := .silent, good := 0 }

/-- The bus unit after a failed attempt has ended, but for its telegram and for SILENT: the rest of the frame is lost to it (R41). -/
def Bus.attemptFailed (b : Bus) : Bus :=
  { b with
    attempt := none, line := .lost, failures := b.failures + 1, counters := { b.counters with txFail := satAdd b.counters.txFail 1 } }

/-- s once a telegram is dropped: counted, reported with a reason, and flagged (R35, R41). -/
def State.dropped (t : Telegram) (reason : Byte) (s : State) : State :=
  (State.raise .txDrop t.tag (half (t.kind.setWidth 8) reason)
    { s with bus := { s.bus with counters := { s.bus.counters with txDrop := satAdd s.bus.counters.txDrop 1 } } }).setFlag .txDrop

/-- The host port after an overflow (R173): the count advances and stays at 255, EVENT_OVERFLOW goes on. -/
def HostPort.overflowed (h : HostPort) : HostPort :=
  { h with overflow := if h.overflow = 255 then 255 else h.overflow + 1, latched := h.latched ||| 0x40 }

/-- The host commands of one argument length, each with that length in bytes (Table 10.1). -/
def fixedLengthCommands : List ((List Byte → Instr) × Nat) :=
  [(.configWrite, 59), (.start, 0), (.statusRead, 0), (.eventRead, 0), (.faultClear, 2), (.countersRead, 0), (.pieceWithdraw, 2),
   (.trackRead, 1), (.trackFind, 2), (.trackRemove, 2), (.looperRelease, 0), (.trainStop, 1), (.trainResume, 0), (.busRelink, 0),
   (.softReset, 0)]

/-- The seventeen host commands in the order of their codes, 1 to 17 (Table 10.1). -/
def hostCommands : List (List Byte → Instr) :=
  [.configWrite, .start, .statusRead, .eventRead, .faultClear, .countersRead, .pieceAnnounce, .pieceWithdraw, .trackRead, .trackFind,
   .trackInsert, .trackRemove, .looperRelease, .trainStop, .trainResume, .busRelink, .softReset]

/-- The looper in HOLD_OFF (R138). -/
def Looper.heldOff (c : ConfigRecord) (l : Looper) : Looper :=
  { l with
    state := .holdOff, holdOffTimer := some c.holdOff.toNat, liftTimer := none, settleTimer := none, lowerTimer := none
    integrator := 0, armPending := false, liftPending := false }

/-- s once a TRAIN_STOP at an auto-stop level is originated (R160, R161): nothing at level 0; else the telegram is queued and a RUNNING
station takes its own stop. -/
def State.autoStopped (level cause : Byte) (s : State) : State :=
  let v := s.queueTelegram (.trainStop level cause)
  if level = 0 then s
  else if s.station.state = .running then
    v.stopped.raise .stopActed 0 (half level (s.station.position ++ cause.setWidth 4 : BitVec 8))
  else v

/-- s once the looper has faulted with this code, its event raised and its flag set (R136, R137, R138). -/
def State.looperFaulted (c : ConfigRecord) (code : Byte) (s : State) : State :=
  let v := s.queueTelegram (.handoffFault s.looper.served code)
  State.autoStopped c.autoStopLooper code { v with looper := s.looper.heldOff c }

/-- s once an entry has become LOST (R114): HEAD_LOST raised and its flag set, a HANDOFF_FAULT queued, the looper of a station that has one
in HOLD_OFF, a train stop at the head-lost level. -/
def State.lostHead (c : ConfigRecord) (tag detail : Half) (s : State) : State :=
  let v := ((s.raise .headLost tag detail).setFlag .headLost).queueTelegram (.handoffFault tag 1)
  State.autoStopped c.autoStopHeadLost 1
    (if s.hasLooper c then { v with looper := s.looper.heldOff c } else v)

/-- The linking ANNOUNCE of a record with a heard set (R20). -/
def linkingAnnounce (c : ConfigRecord) (heard : BitVec 10) : Telegram :=
  .announce { linking := true, trainId := c.trainId, trainSize := c.trainSize.setWidth 4, exitPresent := c.exitPresent == 1
              reportPeriod := c.reportPeriod, lUp := c.lUp, lDn := c.lDn, heard := heard }

/-- The entry after an encoder fault (R78, R121, R58): no marks, PENDING and OPEN made UNTIMED, its tail stamp void. -/
def Entry.stalled (e : Entry) : Entry :=
  { e with
    downstream := if e.downstream = .pending ∨ e.downstream = .inWindow then .untimed else e.downstream
    headMarks := none, tailMarks := none
    tailStamp := e.tailStamp.map fun t => { t with void := true }
    age := if e.headMarks.isSome ∨ e.tailMarks.isSome ∨ e.downstream = .pending ∨ e.downstream = .inWindow then 0 else e.age }

/-- The stand interface after one pulse (R86, R93, R94). -/
def State.standAfterPulse (ch : Channel) (s : State) : Stand :=
  let forward : Bool := match ch with
    | .a => s.stand.encA == s.stand.encB
    | .b => s.stand.encA != s.stand.encB
  { s.stand with
    encA := if ch = .a then !s.stand.encA else s.stand.encA
    encB := if ch = .b then !s.stand.encB else s.stand.encB
    pulse := if forward then s.stand.pulse + 1 else s.stand.pulse - 1
    stallTimer := match s.station.config with
      | some c => s.stand.stallTimer.map fun _ => c.encoderStall.toNat
      | none => s.stand.stallTimer
    encoderStall := false, sincePulse := some 0 }

/-- The samples that the drive numbered from the last one taken to this one and that were not taken (R88). -/
def missedBefore (expect : Option Byte) (seq : Byte) : Nat :=
  match expect with
  | none => 0
  | some last => if seq = last then 0 else (seq - last - 1).toNat

/-- The stand interface once a sample is taken, before it is answered (R88, R89, R92). -/
def State.standAfterSample (x : Sample) (s : State) : Stand :=
  { s.stand with
    latest := some x, expect := some x.seq, lastSeq := some x.seq, sinceSample := 0, sampleLoss := false
    sampleGaps := satAdd s.stand.sampleGaps (missedBefore s.stand.expect x.seq)
    sampleTimer := match s.station.config with
      | some c => s.stand.sampleTimer.map fun _ => c.sampleTimeout.toNat
      | none => s.stand.sampleTimer }

/-- The command record that answers sample number n at a station (R90, R125). -/
def State.answerTo (n : Byte) (s : State) : CommandRecord :=
  let drives : Prop := (s.station.state = .running ∨ s.station.state = .stopped) ∧ (s.station.config.any fun c => s.hasLooper c) = true
  { seq := n
    looper := if drives then s.looper.state.command else .park
    tension := if drives ∧ s.looper.state = .regulating then ((s.inStand?.bind Entry.ownPass).map PassEntry.tensionRef).getD 0 else 0
    trim := if drives then s.trim.current else 0
    station := s.station.state }

/-- The downstream status of an entry at its own bite (Table 4.4, R120). -/
def State.statusAt (c : ConfigRecord) (windowed : Bool) (s : State) : Downstream :=
  if s.station.position = 0 ∨
      (s.station.position.toNat ≤ 8 ∧ (s.station.position.toNat < c.trainSize.toNat ∨ c.exitPresent = 1)) then
    if windowed = true ∧ s.stand.encoderStall = false then .pending else .untimed
  else .noHead

/-- The entry after its own bite (R70): its phase, its bite stamp, its downstream status and its marks. -/
def Entry.bitten (c : ConfigRecord) (stamp : Word) (s : State) (e : Entry) : Entry :=
  let status := s.statusAt c e.window.isSome
  let f := { e with
    phase := if e.flags.tailSeen then .tailApproaching else .inStand
    origin := e.origin.moved, biteStamp := some stamp, downstream := status, age := 0 }
  { f with
    headMarks := if status = .pending then f.headMarksAt c s.station.position else e.headMarks
    tailMarks := if e.flags.tailSeen = true ∧ s.stand.encoderStall = false then f.tailMarksAt c s.station.position else e.tailMarks }

/-- s once the entry e at slot k has taken the own bite (R70, R100, R157), before its marks are reported: the telegram queued, OWN_BITE
raised, the report period timer of a STAND started, a verification begun where R100 says so. -/
def State.bittenAt (c : ConfigRecord) (k : Nat) (e : Entry) (candidate : Half) (b : BiteReport) (s : State) : State :=
  let v := (State.queueTelegram (.headBite e.tag (e.origin == .anonymous) b.speed)
    { s with table := s.table.set k (e.bitten c b.stamp s) }).raise .ownBite e.tag candidate
  { v with
    trim := if s.role = .stand then { v.trim with reportTimer := some c.reportPeriod.toNat } else v.trim
    detector := match e.expectedForce with
      | some force =>
        let half := force * c.forceTolerance.toNat / 1000
        if s.role = .stand ∧ b.byDistance = true then
          { v.detector with verify := .awaiting b.force (force - half) (force + half) b.stamp }
        else v.detector
      | none => v.detector }

/-- s once the entry at slot k has bitten and the marks already passed are reported as one set (R70, R112). -/
def State.bite (c : ConfigRecord) (k : Nat) (e : Entry) (candidate : Half) (b : BiteReport) (s : State) : State :=
  let f := e.bitten c b.stamp s
  State.reportMarks c k (inReportOrder (f.headDue s.stand.pulse ++ f.tailDue s.stand.pulse)) (s.bittenAt c k e candidate b)

/-- A new anonymous entry (R69). -/
def namelessEntry : Entry :=
  { tag := 0, origin := .anonymous, phase := .inStand, barThickness := none, window := none, downstream := .noHead
    verification := .unchecked
    flags := { tailSeen := false, downstreamGap := false, tagMismatch := false, lateLift := false, unsupervised := false,
               trimFaultHeld := false }
    biteStamp := none, headMarks := none, tailStamp := none, tailMarks := none, age := 0 }

/-- s once its looper is LOWERING and its trim ramps out (R133, R154): nothing where the looper neither lifts nor regulates. -/
def State.lowered (c : ConfigRecord) (s : State) : State :=
  if s.looper.state = .lifting .rise ∨ s.looper.state = .lifting .settle ∨ s.looper.state = .regulating then
    State.rampOut { s with looper := { s.looper with
      state := .lowering, lowerTimer := some c.lowerTime.toNat, liftTimer := none, settleTimer := none, integrator := 0 } }
  else s

end Sys2Proof.Machine

open Sys2Proof Sys2Proof.Machine

/-! ### Reset, the queue of commands and the time base -/

/-- RESET brings every block to the values of Tables 2.7, 3.10, 5.2, 7.3, 8.3 and 10.4, the table empty (R85), the time base at 0 (R9),
and reads the strap and encoder pins (R14, R102); no idle period of the line is counted yet; State.reset is such a state. The commands
that wait outside wait on (log 9). That the pins are low in State.reset is the model's choice (log 3). -/
def Obligations.ResetBringsEveryBlockToItsStatedValues : Prop :=
  (∀ (strap : BitVec 4) (a b : Bool) (s : State), ∃ t, exec (.reset strap a b) s = .next t ∧
    t.station = { state := .configuring, position := strap, config := none, lines := [], announceTimer := none,
                  linkTimer := none, fault := none } ∧
    (t.bus.stopQueue = [] ∧ t.bus.eventQueue = [] ∧ t.bus.reportQueue = [] ∧ t.bus.linkQueue = [] ∧ t.bus.attempt = none ∧
      t.bus.line = .busy ∧ t.bus.state = .active ∧ t.bus.failures = 0 ∧ t.bus.good = 0 ∧ t.bus.ownSeq = 0 ∧
      (∀ src : Fin 10, t.bus.expect[src] = none) ∧
      t.bus.counters = { rxGood := 0, rxCrc := 0, rxMalformed := 0, rxRepeat := 0, seqGaps := 0, txGood := 0, txFail := 0,
                         txDrop := 0 }) ∧
    t.table = [] ∧
    (t.stand.pulse = 0 ∧ t.stand.encA = a ∧ t.stand.encB = b ∧ t.stand.latest = none ∧ t.stand.expect = none ∧
      t.stand.sampleTimer = none ∧ t.stand.stallTimer = none ∧ t.stand.sampleLoss = false ∧ t.stand.encoderStall = false ∧
      t.stand.sampleGaps = 0 ∧ t.stand.sampleErrors = 0) ∧
    t.detector = { state := .unloaded, verify := .idle } ∧
    t.looper = { state := .parked, liftTimer := none, settleTimer := none, lowerTimer := none, holdOffTimer := none,
                 integrator := 0, armPending := false, liftPending := false, served := 0 } ∧
    t.trim = { state := .off, target := 0, current := 0, ageTimer := none, saturated := false, reportTimer := none } ∧
    (t.host.events = [] ∧ t.host.overflow = 0 ∧ t.host.latched = 0 ∧ t.host.response = none ∧ t.faultFlags = 0 ∧
      t.irqThreshold = 3 ∧ t.faultEnables = 0 ∧ t.irqAsserted = false ∧ t.faultAsserted = false) ∧
    t.timeBase = 0 ∧ t.pending = s.pending) ∧
  exec (.reset 0 false false) State.reset = .next State.reset

/-- A step takes the command at the front of the queue and is that command's effect on the state with the rest of the queue. -/
def Obligations.StepRunsTheCommandInFront : Prop :=
  ∀ (i : Instr) (rest : List Instr) (s : State), s.pending = i :: rest → step s = exec i { s with pending := rest }

/-- The model's choice (logs 1, 2 and 15): with no command waiting a step is one tick of the time base. The time base advances by one and
wraps, every running timer comes one tick nearer its end, an entry ages in its aging phases alone, a frame lost to the station has ended,
and no other field changes; what is then due, by the eleven expiries of the table, joins the queue in their order, and nothing else
does. -/
def Obligations.IdleStepIsOneTickOfTheTimeBase : Prop :=
  ∀ s : State, s.pending = [] → step s = .next { s.ticked with pending := s.ticked.expiries }

/-- No command stops the station: each has an effect in every state. -/
def Obligations.EveryCommandAnswersANextState : Prop :=
  ∀ (i : Instr) (s : State), ∃ t, exec i s = .next t

/-! ### Configuration and start -/

/-- A configuration record is in range exactly when each of its 36 fields lies in its range of Table 2.3, and the failing index is that
of the first field, in ascending order of index, that does not. -/
def Obligations.ConfigurationRangesAreThoseOfTheTable : Prop :=
  (∀ c : ConfigRecord, c.firstBad = none ↔ ∀ i, 1 ≤ i → i ≤ 36 → c.FieldInRange i) ∧
  (∀ (c : ConfigRecord) (i : Nat), c.firstBad = some i ↔
    1 ≤ i ∧ i ≤ 36 ∧ ¬ c.FieldInRange i ∧ ∀ j, 1 ≤ j → j < i → c.FieldInRange j)

/-- CONFIG_WRITE (R17): in CONFIGURING a record in range is accepted whole and replaces the one held, and a record out of range is refused
with the failing index, the record held staying; in every other state it is refused with WRONG_STATE; a wrong argument length is
refused with BAD_LENGTH first. -/
def Obligations.ConfigWriteAcceptsOrNamesTheFailingField : Prop :=
  ∀ (s : State), s.host.softResetDue = false →
    (∀ args : List Byte, args.length ≠ 59 → exec (.configWrite args) s = .next (s.answered .badLength [])) ∧
    (∀ c : ConfigRecord,
      (s.station.state ≠ .configuring → exec (.configWrite c.bytes) s = .next (s.answered .wrongState [])) ∧
      (s.station.state = .configuring → c.firstBad = none →
        exec (.configWrite c.bytes) s =
          .next ({ s with station := { s.station with config := some c } }.answered .ok [])) ∧
      (∀ i, s.station.state = .configuring → c.firstBad = some i →
        exec (.configWrite c.bytes) s = .next (s.answered .badArgument [byteOf i])))

/-- The 59 argument bytes of a CONFIG_WRITE and the 36 fields of a record determine each other. -/
def Obligations.ConfigurationRecordBytesRoundTrip : Prop :=
  (∀ c : ConfigRecord, c.bytes.length = 59 ∧ ConfigRecord.ofBytes c.bytes = c) ∧
  (∀ bs : List Byte, bs.length = 59 → (ConfigRecord.ofBytes bs).bytes = bs)

/-- START makes its four tests in the order of Table 2.4, and the first that fails decides the refusal; a refused START leaves the
station as it was. -/
def Obligations.StartMakesItsFourTestsInOrder : Prop :=
  ∀ s : State, s.host.softResetDue = false →
    (s.station.state ≠ .configuring → exec (.start []) s = .next (s.answered .wrongState [])) ∧
    (s.station.state = .configuring → 10 ≤ s.station.position.toNat →
      exec (.start []) s = .next (s.answered .wrongRole [])) ∧
    (s.station.state = .configuring → s.station.position.toNat ≤ 9 → s.station.config = none →
      exec (.start []) s = .next (s.answered .badArgument [0])) ∧
    (∀ c : ConfigRecord, s.station.state = .configuring → s.station.config = some c →
      (s.station.position.toNat ≤ 8 ∧ c.trainSize.toNat < s.station.position.toNat ∨
        s.station.position.toNat = 9 ∧ c.exitPresent ≠ 1) →
      exec (.start []) s = .next (s.answered .wrongRole []))

/-- An accepted START enters LINKING with one line in SEEK, count 0, for each required neighbour of Table 2.1, starts the announce and
link timers and those of the stand interface, queues a linking ANNOUNCE with an empty heard set, and returns OK. That the upstream
neighbour's line comes first is the model's order (log 22). -/
def Obligations.StartEntersLinkingWithTheRequiredNeighbours : Prop :=
  (∀ (c : ConfigRecord) (s : State), s.host.softResetDue = false → s.station.state = .configuring →
    s.station.config = some c →
    (s.station.position.toNat ≤ 8 ∧ s.station.position.toNat ≤ c.trainSize.toNat ∨
      s.station.position.toNat = 9 ∧ c.exitPresent = 1) →
    exec (.start []) s = .next (({ s.opened with
      station := { s.station with
        state := .linking, lines := requiredLines c s.station.position
        announceTimer := some c.announcePeriod.toNat, linkTimer := some (1000 * c.linkTimeout.toNat) }
      stand := { s.stand with
        sampleTimer := some c.sampleTimeout.toNat, stallTimer := some c.encoderStall.toNat
        lastSeq := none, sinceSample := 0 } }.queueTelegram (.announce
          { linking := true, trainId := c.trainId, trainSize := c.trainSize.setWidth 4, exitPresent := c.exitPresent == 1,
            reportPeriod := c.reportPeriod, lUp := c.lUp, lDn := c.lDn, heard := 0 })).respond .ok [])) ∧
  (∀ (c : ConfigRecord) (k : BitVec 4), c.trainSize.toNat ≤ 8 →
    requiredLines c 0 = [neighbourLine .downstream 1] ∧
    (1 ≤ k.toNat → k.toNat ≤ 8 →
      requiredLines c k = neighbourLine .upstream (Fin.ofNat 10 (k.toNat - 1)) ::
        (if k.toNat < c.trainSize.toNat then [neighbourLine .downstream (Fin.ofNat 10 (k.toNat + 1))]
         else if c.exitPresent = 1 then [neighbourLine .downstream 9] else [])) ∧
    requiredLines c 9 = [neighbourLine .upstream (Fin.ofNat 10 c.trainSize.toNat)])

/-! ### Reception -/

/-- A good telegram from another station is put to the tests of R49 in their order, whatever its kind: a repeat is counted and
discarded; a first telegram, one in sequence or a linking ANNOUNCE is accepted and dispatched; any other is accepted with a gap of s − e
modulo 256, which is counted, reported and noticed before the telegram is dispatched (R50), as if it were in sequence. In CONFIGURING and
FAULTED it goes no further. That the telegram that ends SILENT raises BUS_ACTIVE first is the model's order (log 8). -/
def Obligations.ReceptionMakesTheSequenceTestsInOrder : Prop :=
  ∀ (t : Telegram) (src : Fin 10) (seq : Byte) (s : State), src.val ≠ s.station.position.toNat → s.bus.line ≠ .lost →
    (s.bus.expect[src] = some seq →
      exec (t.received src seq) s = .next { s.goodCounted with bus := { s.goodCounted.bus with
        counters := { s.bus.counters with rxRepeat := satAdd s.bus.counters.rxRepeat 1 } } }) ∧
    (s.bus.expect[src] = none ∨ s.bus.expect[src] = some (seq - 1) ∨ (s.bus.expect[src] ≠ some seq ∧ t.isLinking = true) →
      exec (t.received src seq) s = .next (t.dispatched src (s.accepted src seq)) ∧
      (s.station.state = .configuring ∨ s.station.state = .faulted →
        exec (t.received src seq) s = .next (s.accepted src seq))) ∧
    (∀ last, s.bus.expect[src] = some last → last ≠ seq → t.isLinking = true →
      exec (t.received src seq) s =
        exec (t.received src seq) { s with bus := { s.bus with expect := s.bus.expect.set src (some (seq - 1)) } }) ∧
    (∀ last, s.bus.expect[src] = some last → last ≠ seq → last + 1 ≠ seq → t.isLinking = false →
      exec (t.received src seq) s = .next (t.dispatched src ((s.accepted src seq).gapNoticed src (seq - (last + 1)))) ∧
      (s.station.state = .configuring ∨ s.station.state = .faulted →
        exec (t.received src seq) s = .next
          ({ s.accepted src seq with bus := { (s.accepted src seq).bus with
            counters := { (s.accepted src seq).bus.counters with
              seqGaps := satAdd s.bus.counters.seqGaps (seq - (last + 1)).toNat } } }.raise .seqGap 0
            (half (BitVec.ofNat 8 src.val) (seq - (last + 1))))) ∧
      ((s.bus.state = .silent → s.bus.good < 63) →
        s.station.state = .linking ∨ s.station.state = .running ∨ s.station.state = .stopped →
        exec (t.received src seq) s = exec (t.received src seq) ({ s with bus := { s.bus with
          expect := s.bus.expect.set src (some (seq - 1)) } }.gapNoticed src (seq - (last + 1)))))

/-- A good telegram of any kind from the station's own position counts in RX_GOOD; in LINKING, RUNNING and STOPPED it makes the station
enter FAULTED with cause DUPLICATE_POSITION, and in CONFIGURING and FAULTED it has no further effect. That the one that ends SILENT raises
BUS_ACTIVE first is the model's order (log 8). -/
def Obligations.TelegramFromOwnPositionFaultsTheStation : Prop :=
  ∀ (t : Telegram) (src : Fin 10) (seq : Byte) (s : State), src.val = s.station.position.toNat → s.bus.line ≠ .lost →
    let counted : State := { s.goodCounted with bus := { s.goodCounted.bus with
      counters := { s.bus.counters with rxGood := satAdd s.bus.counters.rxGood 1 } } }
    (s.station.state = .linking ∨ s.station.state = .running ∨ s.station.state = .stopped →
      exec (t.received src seq) s = .next (counted.faultedBy .duplicatePosition src)) ∧
    (s.station.state = .configuring ∨ s.station.state = .faulted → exec (t.received src seq) s = .next counted)

/-- The consecutive-good count: every good telegram of any kind advances it up to 64; in SILENT the one that brings it to 64 makes the bus
unit ACTIVE, both counts 0, with BUS_ACTIVE and the detail RECEPTION, and is then dispatched like any other (the model's order, log 8); a
failed reception and a malformed telegram are counted, set it to 0 and change nothing else but the line. After each the line is idle, its
slot count at 0, unless the station's own attempt is on it. In the rest of a frame in which the station's attempt has failed nothing is
taken or counted, and the line is idle after it (log 15). -/
def Obligations.ConsecutiveGoodCountLeadsOutOfSilent : Prop :=
  (∀ (t : Telegram) (src : Fin 10) (seq : Byte) (s : State),
    (s.bus.line = .lost → exec (t.received src seq) s = .next (s.idleAt 0)) ∧
    (s.bus.line ≠ .lost → ∃ u, exec (t.received src seq) s = .next u ∧
      (s.bus.attempt = none → u.bus.line = .idle 0) ∧ (s.bus.attempt ≠ none → u.bus.line = s.bus.line) ∧
      (s.bus.state = .active → u.bus.state = .active ∧ u.bus.failures = s.bus.failures ∧ u.bus.good = min 64 (s.bus.good + 1)) ∧
      (s.bus.state = .silent → s.bus.good < 63 →
        u.bus.state = .silent ∧ u.bus.failures = s.bus.failures ∧ u.bus.good = s.bus.good + 1) ∧
      (s.bus.state = .silent → 63 ≤ s.bus.good → u.bus.state = .active ∧ u.bus.failures = 0 ∧ u.bus.good = 0)) ∧
    (s.Hears src seq → s.bus.state = .silent → 63 ≤ s.bus.good →
      exec (t.received src seq) s = .next (t.dispatched src (State.raise .busActive 0 0 { s with bus := { s.bus with
        line := if s.bus.attempt.isSome then s.bus.line else .idle 0, state := .active, failures := 0, good := 0
        counters := { s.bus.counters with rxGood := satAdd s.bus.counters.rxGood 1 }
        expect := s.bus.expect.set src (some seq) } })))) ∧
  (∀ (why : ReceptionFailure) (s : State),
    (s.bus.line = .lost → exec (.rxFailedReception why) s = .next (s.idleAt 0)) ∧
    (s.bus.line ≠ .lost → exec (.rxFailedReception why) s = .next { s with bus := { s.bus with
      line := if s.bus.attempt.isSome then s.bus.line else .idle 0
      good := 0, counters := { s.bus.counters with rxCrc := satAdd s.bus.counters.rxCrc 1 } } })) ∧
  (∀ (why : Malformation) (s : State),
    (s.bus.line = .lost → exec (.rxMalformed why) s = .next (s.idleAt 0)) ∧
    (s.bus.line ≠ .lost → exec (.rxMalformed why) s = .next { s with bus := { s.bus with
      line := if s.bus.attempt.isSome then s.bus.line else .idle 0
      good := 0, counters := { s.bus.counters with rxMalformed := satAdd s.bus.counters.rxMalformed 1 } } }))

/-- A telegram framed as Tables 11.1 and 11.2 lay it out, taken byte for byte or bit for bit from the line, is received as itself, with its
source and number, for every value its fields can have. Each byte stands on the line as a start bit, its bits least significant first and
a stop bit, and four bit-times at the stop level end the frame. The station drives the line with its frame exactly during an attempt. -/
def Obligations.UndisturbedFrameIsReceivedAsSent : Prop :=
  (∀ (t : Telegram) (src : Fin 10) (seq : Byte), t.payload.length ≤ 96 →
    let frame := t.frame (BitVec.ofNat 4 src.val) seq
    receiveFrame (undisturbed frame) = t.received src seq ∧
    (∀ after : List Bool, receiveFrame (bytesOfBits 0 (frameBits frame ++ List.replicate 4 true ++ after)) = t.received src seq)) ∧
  (∀ frame : List Byte, frameBits frame = frame.flatMap fun b => [false] ++ (List.range 8).map (fun i => b.getLsbD i) ++ [true]) ∧
  (∀ s : State,
    (s.bus.attempt = none → s.busDriven = false ∧ s.busBits = none) ∧
    (∀ a, s.bus.attempt = some a →
      s.busDriven = true ∧ s.busBits = some (frameBits (a.telegram.frame s.station.position a.seq))))

/-- What R46 and R47 do with a frame that is not a good telegram: a byte without its stop bit, a wrong sync byte, a line idle too early, a
byte too many and a check that differs are failed receptions; a length field above 96, and in an intact frame a kind of 0 or above 9,
a source above 9, or a payload length that disagrees with the kind, are malformed. -/
def Obligations.DamagedOrMalformedFrameIsDiscarded : Prop :=
  (∀ bs : List RawByte, bs.length < 5 → receiveFrame bs = .rxFailedReception .cutShort) ∧
  (∀ (h1 h2 h3 : Byte) (rest : List Byte),
    (96 < h3.toNat → receiveFrame (undisturbed (0x5A :: 0xC3 :: h1 :: h2 :: h3 :: rest)) = .rxMalformed .lengthField) ∧
    (h3.toNat ≤ 96 →
      (rest.length < h3.toNat + 2 →
        receiveFrame (undisturbed (0x5A :: 0xC3 :: h1 :: h2 :: h3 :: rest)) = .rxFailedReception .cutShort) ∧
      (h3.toNat + 2 < rest.length →
        receiveFrame (undisturbed (0x5A :: 0xC3 :: h1 :: h2 :: h3 :: rest)) = .rxFailedReception .overrun)) ∧
    (∀ s1 s2 : Byte, s1 ≠ 0x5A ∨ s2 ≠ 0xC3 →
      receiveFrame (undisturbed (s1 :: s2 :: h1 :: h2 :: h3 :: rest)) = .rxFailedReception .sync)) ∧
  (∀ (h1 h2 h3 c1 c2 : Byte) (payload : List Byte), payload.length = h3.toNat → h3.toNat ≤ 96 →
    let frame : List Byte := [0x5A, 0xC3, h1, h2, h3] ++ payload ++ [c1, c2]
    (half c1 c2 ≠ crc16 ([h1, h2, h3] ++ payload) → receiveFrame (undisturbed frame) = .rxFailedReception .check) ∧
    (half c1 c2 = crc16 ([h1, h2, h3] ++ payload) → (h1.toNat / 16 = 0 ∨ 9 < h1.toNat / 16) →
      receiveFrame (undisturbed frame) = .rxMalformed .kind) ∧
    (half c1 c2 = crc16 ([h1, h2, h3] ++ payload) → 1 ≤ h1.toNat / 16 → h1.toNat / 16 ≤ 9 → 9 < h1.toNat % 16 →
      receiveFrame (undisturbed frame) = .rxMalformed .source) ∧
    (half c1 c2 = crc16 ([h1, h2, h3] ++ payload) → 1 ≤ h1.toNat / 16 → h1.toNat / 16 ≤ 9 → h1.toNat % 16 ≤ 9 →
      lengthDisagrees (h1.toNat / 16) payload → receiveFrame (undisturbed frame) = .rxMalformed .length) ∧
    (∀ k v, (undisturbed frame)[k]? = some v →
      receiveFrame ((undisturbed frame).set k { v with stopBit := false }) = .rxFailedReception .stopBit))

/-! ### Neighbour acquisition -/

/-- In LINKING an ANNOUNCE from a required neighbour that disagrees over the train, or else over the distance, faults the station; an
agreeing one is counted, the third in a row makes a neighbour in SEEK MATCHED and queues a linking ANNOUNCE, and one from a MATCHED
neighbour that lists this station makes it ACKED; the last one ACKED takes the station into RUNNING with LINKED. That the telegram that
ends SILENT raises BUS_ACTIVE before it is dispatched is the model's order (log 8). -/
def Obligations.AnnounceWhileLinkingAcquiresTheNeighbour : Prop :=
  ∀ (c : ConfigRecord) (src : Fin 10) (seq : Byte) (a : Announce) (l : AcqLine) (s : State),
    s.Hears src seq → s.station.state = .linking → s.station.config = some c → s.line? src = some l →
    let train := a.trainId = c.trainId ∧ a.trainSize.toNat = c.trainSize.toNat ∧ a.exitPresent = (c.exitPresent == 1) ∧
      a.reportPeriod = c.reportPeriod
    let adjacent := (l.relation = .upstream ∧ a.lDn = c.lUp) ∨ (l.relation = .downstream ∧ a.lUp = c.lDn)
    let u := s.accepted src seq
    let withLine (f : AcqLine → AcqLine) : State := { u with station := { u.station with
      lines := s.station.lines.map fun l => if l.position = src then f l else l } }
    let othersAcked := ∀ m ∈ s.station.lines, m.position ≠ src → m.state = .acked
    (¬ train → exec (.announceReceived src seq a) s = .next (u.faultedBy .trainMismatch src)) ∧
    (train → ¬ adjacent → exec (.announceReceived src seq a) s = .next (u.faultedBy .distanceMismatch src)) ∧
    (train → adjacent → l.state = .seek → l.agreements < 2 →
      exec (.announceReceived src seq a) s = .next (withLine fun l => { l with agreements := l.agreements + 1 })) ∧
    (train → adjacent → l.state = .seek → 2 ≤ l.agreements → a.heard.getLsbD s.station.position.toNat = false →
      ∃ heard, exec (.announceReceived src seq a) s =
          .next ((withLine fun l => { l with state := .matched, agreements := l.agreements + 1 }).queueTelegram (.announce
            { linking := true, trainId := c.trainId, trainSize := c.trainSize.setWidth 4, exitPresent := c.exitPresent == 1,
              reportPeriod := c.reportPeriod, lUp := c.lUp, lDn := c.lDn, heard := heard })) ∧
        ∀ p : Fin 10, heard.getLsbD p.val = true ↔
          p = src ∨ ∃ m ∈ s.station.lines, m.position = p ∧ m.state ≠ .seek) ∧
    (train → adjacent → l.state = .seek → 2 ≤ l.agreements → a.heard.getLsbD s.station.position.toNat = true →
      ∃ heard : BitVec 10, (∀ p : Fin 10, heard.getLsbD p.val = true ↔
          p = src ∨ ∃ m ∈ s.station.lines, m.position = p ∧ m.state ≠ .seek) ∧
        let v := (withLine fun l => { l with state := .matched, agreements := l.agreements + 1 }).queueTelegram (.announce
          { linking := true, trainId := c.trainId, trainSize := c.trainSize.setWidth 4, exitPresent := c.exitPresent == 1,
            reportPeriod := c.reportPeriod, lUp := c.lUp, lDn := c.lDn, heard := heard })
        let w : State := { v with station := { v.station with
          lines := v.station.lines.map fun l => if l.position = src then { l with state := .acked } else l } }
        (¬ othersAcked → exec (.announceReceived src seq a) s = .next w) ∧
        (othersAcked → exec (.announceReceived src seq a) s = .next ({ w with
          station := { w.station with state := .running, announceTimer := none, linkTimer := none } }.raise .linked 0 0))) ∧
    (train → adjacent → l.state = .matched → a.heard.getLsbD s.station.position.toNat = false →
      exec (.announceReceived src seq a) s = .next u) ∧
    (train → adjacent → l.state = .matched → a.heard.getLsbD s.station.position.toNat = true → ¬ othersAcked →
      exec (.announceReceived src seq a) s = .next (withLine fun l => { l with state := .acked })) ∧
    (train → adjacent → l.state = .matched → a.heard.getLsbD s.station.position.toNat = true → othersAcked →
      exec (.announceReceived src seq a) s = .next ({ withLine (fun l => { l with state := .acked }) with
        station := { (withLine fun l => { l with state := .acked }).station with
          state := .running, announceTimer := none, linkTimer := none } }.raise .linked 0 0)) ∧
    (train → adjacent → l.state = .acked → exec (.announceReceived src seq a) s = .next u)

/-- In RUNNING and STOPPED a linking ANNOUNCE from a required neighbour is answered with an ANNOUNCE, linking flag clear, that lists
every required neighbour, and NEIGHBOUR_REJOINED; a disagreement over the train, or else over the distance, raises NEIGHBOUR_MISMATCH
and faults nothing. From any other position an ANNOUNCE is a good reception and no more. That the answer comes before the test of
agreement is the model's order (log 8). That the telegram that ends SILENT raises BUS_ACTIVE before it is dispatched is the model's
order (log 8). -/
def Obligations.AnnounceWhileRunningIsAnsweredAndFaultsNothing : Prop :=
  ∀ (c : ConfigRecord) (src : Fin 10) (seq : Byte) (a : Announce) (s : State), s.Hears src seq → s.station.config = some c →
    let u := s.accepted src seq
    (s.station.state = .linking ∨ s.station.state = .running ∨ s.station.state = .stopped → s.line? src = none →
      exec (.announceReceived src seq a) s = .next u) ∧
    (s.station.state = .running ∨ s.station.state = .stopped → ∀ l, s.line? src = some l →
      ∃ heard : BitVec 10, (∀ p : Fin 10, heard.getLsbD p.val = true ↔ ∃ m ∈ s.station.lines, m.position = p) ∧
        let reply : Announce :=
          { linking := false, trainId := c.trainId, trainSize := c.trainSize.setWidth 4, exitPresent := c.exitPresent == 1,
            reportPeriod := c.reportPeriod, lUp := c.lUp, lDn := c.lDn, heard := heard }
        let v := if a.linking then (u.queueTelegram (.announce reply)).raise .neighbourRejoined 0 (BitVec.ofNat 16 src.val) else u
        exec (.announceReceived src seq a) s = .next (
          if ¬ (a.trainId = c.trainId ∧ a.trainSize.toNat = c.trainSize.toNat ∧ a.exitPresent = (c.exitPresent == 1) ∧
              a.reportPeriod = c.reportPeriod) then
            v.raise .neighbourMismatch 0 (half (BitVec.ofNat 8 src.val) 0)
          else if ¬ ((l.relation = .upstream ∧ a.lDn = c.lUp) ∨ (l.relation = .downstream ∧ a.lUp = c.lDn)) then
            v.raise .neighbourMismatch 0 (half (BitVec.ofNat 8 src.val) 1)
          else v))

/-! ### Piece records and pieces -/

/-- A piece record is valid exactly when it passes checks 1 to 9 of Table 1.3 in every pass; an invalid one is named by the first check it
fails, in the order of R3, and by the pass in which it fails it, 0 for checks 1 to 3. The pass window of a new entry is that of Table 1.4
for the station's role and position, for a record of as many passes as the train has stands. -/
def Obligations.PieceRecordIsCheckedInOrderAndWindowed : Prop :=
  (∀ (n : Nat) (r : PieceRecord),
     (r.tag = 0 → checkRecord n r = some { check := 1, pass := 0 }) ∧
     (r.tag ≠ 0 → r.passes.length ≠ n → checkRecord n r = some { check := 2, pass := 0 }) ∧
     (r.tag ≠ 0 → r.passes.length = n → (r.barThickness.toNat < 8000 ∨ 60000 < r.barThickness.toNat) →
       checkRecord n r = some { check := 3, pass := 0 }) ∧
     (r.tag ≠ 0 → r.passes.length = n → 8000 ≤ r.barThickness.toNat → r.barThickness.toNat ≤ 60000 →
       (checkRecord n r = none ↔ ∀ i, 1 ≤ i → i ≤ n → ∀ k, ¬ r.failsIn n i k) ∧
       (∀ k i, checkRecord n r = some { check := k, pass := i } ↔
         r.failsIn n i k ∧ (∀ j, j < k → ¬ r.failsIn n i j) ∧ (∀ h, h < i → ∀ j, ¬ r.failsIn n h j)))) ∧
  (∀ (c : ConfigRecord) (r : PieceRecord), r.passes.length = c.trainSize.toNat → 1 ≤ c.trainSize.toNat → c.trainSize.toNat ≤ 8 →
     passWindow c 0 r = { up := none, own := none, down := r.passes.head? } ∧
     passWindow c 9 r = { up := r.passes.getLast?, own := none, down := none } ∧
     ∀ k : BitVec 4, 1 ≤ k.toNat → k.toNat ≤ c.trainSize.toNat →
       (passWindow c k r).own = r.passes[k.toNat - 1]? ∧ (passWindow c k r).own.isSome = true ∧
       (k = 1 → (passWindow c k r).up = none) ∧
       (2 ≤ k.toNat → (passWindow c k r).up = r.passes[k.toNat - 2]? ∧ (passWindow c k r).up.isSome = true) ∧
       (k.toNat < c.trainSize.toNat →
         (passWindow c k r).down = r.passes[k.toNat]? ∧ (passWindow c k r).down.isSome = true) ∧
       (k.toNat = c.trainSize.toNat → (passWindow c k r).down = none))

/-- A PIECE_ENTRY from position 0 with a valid record appends an ANNOUNCED entry of origin BUS and raises PIECE_ADDED; a full table
gives up its oldest CLEARED entry for it. A record that is not valid, a tag the table holds and a full table without a CLEARED entry are
refused, in this order, with PIECE_REFUSED; a telegram from any other position is ignored with the reason NOT_ENTRY. That a telegram
ignored as NOT_ENTRY refreshes the entry it names is the model's reading (log 14). That the telegram that ends SILENT raises BUS_ACTIVE
before it is dispatched is the model's order (log 8). -/
def Obligations.PieceEntryCreatesAnEntryOrIsRefused : Prop :=
  ∀ (c : ConfigRecord) (src : Fin 10) (seq : Byte) (r : PieceRecord) (s : State), s.Hears src seq → s.Runs c →
    let u := s.accepted src seq
    let new := announcedEntry c s.station.position .bus r
    (src ≠ 0 → exec (.pieceEntryReceived src seq r) s = .next ((u.touched r.tag).frameUnexpected 2 src 5 r.tag)) ∧
    (∀ f, src = 0 → checkRecord c.trainSize.toNat r = some f →
      exec (.pieceEntryReceived src seq r) s = .next (u.raise .pieceRefused r.tag (half 0 (BitVec.ofNat 4 f.check ++ BitVec.ofNat 4 f.pass)))) ∧
    (src = 0 → checkRecord c.trainSize.toNat r = none →
      (¬ s.Unknown r.tag →
        exec (.pieceEntryReceived src seq r) s = .next ((u.touched r.tag).raise .pieceRefused r.tag 0x100)) ∧
      (s.Unknown r.tag → s.table.length < 8 →
        exec (.pieceEntryReceived src seq r) s = .next
          (State.raise .pieceAdded r.tag (half 0 (byteOf s.table.length)) { u with table := s.table ++ [new] })) ∧
      (s.Unknown r.tag → 8 ≤ s.table.length → (∀ e ∈ s.table, e.phase ≠ .cleared) →
        exec (.pieceEntryReceived src seq r) s = .next (u.raise .pieceRefused r.tag 0x200)) ∧
      (∀ k e, s.Unknown r.tag → 8 ≤ s.table.length → s.Oldest (fun e => e.phase = .cleared) k e →
        exec (.pieceEntryReceived src seq r) s = .next
          (State.raise .pieceAdded r.tag (half 0 (byteOf (s.table.length - 1)))
            { u.raise .pieceEvicted e.tag (e.downstream.code.setWidth 16) with table := s.table.eraseIdx k ++ [new] })))

/-- A PIECE_WITHDRAW from position 0 removes the entry with its tag while it is ANNOUNCED, with PIECE_WITHDRAWN and the reason WITHDRAW;
in any other phase, for an unknown tag and from any other position the table keeps its entries and UNEXPECTED_FRAME says why. That a
telegram ignored as NOT_ENTRY refreshes the entry it names is the model's reading (log 14). That the telegram that ends SILENT raises
BUS_ACTIVE before it is dispatched is the model's order (log 8). -/
def Obligations.PieceWithdrawTelegramRemovesAnAnnouncedEntry : Prop :=
  ∀ (c : ConfigRecord) (src : Fin 10) (seq : Byte) (t : Half) (s : State), s.Hears src seq → s.Runs c →
    let u := s.accepted src seq
    (src ≠ 0 → exec (.pieceWithdrawReceived src seq t) s = .next ((u.touched t).frameUnexpected 3 src 5 t)) ∧
    (src = 0 → s.Unknown t → exec (.pieceWithdrawReceived src seq t) s = .next (u.frameUnexpected 3 src 0 t)) ∧
    (∀ k e, src = 0 → s.Names t k e →
      (e.phase = .announced → exec (.pieceWithdrawReceived src seq t) s = .next
        (State.raise .pieceWithdrawn t 1 { u with table := s.table.eraseIdx k })) ∧
      (e.phase ≠ .announced → exec (.pieceWithdrawReceived src seq t) s = .next ((u.refreshed k).frameUnexpected 3 src 1 t)))

/-- PIECE_ANNOUNCE at the ENTRY station and TRACK_INSERT at any station make their tests in order: BAD_LENGTH where the arguments are no
piece record, WRONG_ROLE (PIECE_ANNOUNCE alone), WRONG_STATE outside RUNNING, the record check, DUPLICATE, FULL. -/
def Obligations.HostPieceRecordsAreTestedInOrder : Prop :=
  ∀ (announce : Bool) (s : State), s.host.softResetDue = false →
    (∀ args : List Byte, (∀ r : PieceRecord, r.passes.length ≤ 255 → args ≠ r.bytes) →
      exec (pieceCommand announce args) s = .next (s.answered .badLength [])) ∧
    (∀ r : PieceRecord, r.passes.length ≤ 255 →
      (announce = true → s.station.position ≠ 0 →
        exec (pieceCommand announce r.bytes) s = .next (s.answered .wrongRole [])) ∧
      ((announce = true → s.station.position = 0) → s.station.state ≠ .running →
        exec (pieceCommand announce r.bytes) s = .next (s.answered .wrongState [])) ∧
      (∀ c, (announce = true → s.station.position = 0) → s.Runs c →
        (∀ f, checkRecord c.trainSize.toNat r = some f → exec (pieceCommand announce r.bytes) s = .next
          ((s.opened.raise .pieceRefused r.tag (half 0 (BitVec.ofNat 4 f.check ++ BitVec.ofNat 4 f.pass))).respond .badArgument
            [byteOf f.check, byteOf f.pass])) ∧
        (checkRecord c.trainSize.toNat r = none → ¬ s.Unknown r.tag → exec (pieceCommand announce r.bytes) s = .next
          ((s.opened.raise .pieceRefused r.tag 0x100).respond .duplicate [])) ∧
        (checkRecord c.trainSize.toNat r = none → s.Unknown r.tag → 8 ≤ s.table.length → (∀ e ∈ s.table, e.phase ≠ .cleared) →
          exec (pieceCommand announce r.bytes) s = .next
            ((s.opened.raise .pieceRefused r.tag 0x200).respond .full []))))

/-- A valid record that PIECE_ANNOUNCE or TRACK_INSERT brings, its tag not in the table, is appended as an ANNOUNCED entry, a full table
giving up its oldest CLEARED entry; PIECE_ANNOUNCE queues the PIECE_ENTRY telegram of the record, TRACK_INSERT, whose entry is of
origin MANUAL, queues none; the status is OK. -/
def Obligations.HostPieceRecordsCreateAnEntry : Prop :=
  ∀ (announce : Bool) (c : ConfigRecord) (r : PieceRecord) (s : State), s.host.softResetDue = false → s.Runs c →
    (announce = true → s.station.position = 0) → r.passes.length ≤ 255 → checkRecord c.trainSize.toNat r = none →
    s.Unknown r.tag →
    let origin : Origin := if announce then .bus else .manual
    let new := announcedEntry c s.station.position origin r
    let told (v : State) : State := (if announce then v.queueTelegram (.pieceEntry r) else v).respond .ok []
    (s.table.length < 8 → exec (pieceCommand announce r.bytes) s = .next (told
      (State.raise .pieceAdded r.tag (half origin.code (byteOf s.table.length)) { s.opened with table := s.table ++ [new] }))) ∧
    (∀ k e, 8 ≤ s.table.length → s.Oldest (fun e => e.phase = .cleared) k e →
      exec (pieceCommand announce r.bytes) s = .next (told
        (State.raise .pieceAdded r.tag (half origin.code (byteOf (s.table.length - 1)))
          { s.opened.raise .pieceEvicted e.tag (e.downstream.code.setWidth 16) with table := s.table.eraseIdx k ++ [new] })))

/-- PIECE_WITHDRAW (R80, R172) and TRACK_REMOVE (R84): the tests of each in order, and the removal: of the ANNOUNCED entry with the tag,
told to the train, by the one; of the oldest entry with the tag that is not in-stand, told to nobody, by the other. -/
def Obligations.HostRemovalsTestAndRemove : Prop :=
  ∀ (t : Half) (s : State), s.host.softResetDue = false →
    ((s.station.position ≠ 0 → exec (.pieceWithdraw (bytes16 t)) s = .next (s.answered .wrongRole [])) ∧
     (s.station.position = 0 → s.station.state ≠ .running →
       exec (.pieceWithdraw (bytes16 t)) s = .next (s.answered .wrongState [])) ∧
     (s.station.position = 0 → s.station.state = .running → s.Unknown t →
       exec (.pieceWithdraw (bytes16 t)) s = .next (s.answered .notFound [])) ∧
     (∀ k e, s.station.position = 0 → s.station.state = .running → s.Names t k e →
       (e.phase = .announced → exec (.pieceWithdraw (bytes16 t)) s = .next
         (((State.raise .pieceWithdrawn t 1 { s.opened with table := s.table.eraseIdx k }).queueTelegram
           (.pieceWithdraw t)).respond .ok [])) ∧
       (e.phase ≠ .announced → exec (.pieceWithdraw (bytes16 t)) s = .next (s.answered .active [])))) ∧
    ((s.station.state ≠ .running → exec (.trackRemove (bytes16 t)) s = .next (s.answered .wrongState [])) ∧
     (s.station.state = .running → (∀ e ∈ s.table, e.tag ≠ t) →
       exec (.trackRemove (bytes16 t)) s = .next (s.answered .notFound [])) ∧
     (∀ k e, s.station.state = .running → s.Oldest (fun e => e.tag = t) k e →
       (e.phase = .inStand ∨ e.phase = .tailApproaching →
         exec (.trackRemove (bytes16 t)) s = .next (s.answered .active [])) ∧
       (e.phase ≠ .inStand → e.phase ≠ .tailApproaching → exec (.trackRemove (bytes16 t)) s = .next
         ((State.raise .pieceWithdrawn t 2 { s.opened with table := s.table.eraseIdx k }).respond .ok []))))

/-- TRACK_READ returns the entry at an order slot and TRACK_FIND the oldest entry with a tag, each behind its slot and the number of
entries, or NOT_FOUND with that number; TRACK_READ refuses a slot above 7. An entry's record has 74 bytes, in which every field of
Table 11.6 stands at its offset, an absent one as 0, and a named value as its place in its list. -/
def Obligations.TrackReadsReturnTheEntry : Prop :=
  (∀ s : State, s.host.softResetDue = false →
    let count := byteOf s.table.length
    (∀ b : Byte, 7 < b.toNat → exec (.trackRead [b]) s = .next (s.answered .badArgument [])) ∧
    (∀ b : Byte, b.toNat ≤ 7 → s.table.length ≤ b.toNat → exec (.trackRead [b]) s = .next (s.answered .notFound [count])) ∧
    (∀ (b : Byte) (e : Entry), b.toNat ≤ 7 → s.table[b.toNat]? = some e →
      exec (.trackRead [b]) s = .next (s.answered .ok (b :: count :: e.bytes))) ∧
    (∀ t : Half, (∀ e ∈ s.table, e.tag ≠ t) → exec (.trackFind (bytes16 t)) s = .next (s.answered .notFound [count])) ∧
    (∀ (t : Half) (k : Nat) (e : Entry), s.Oldest (fun e => e.tag = t) k e →
      exec (.trackFind (bytes16 t)) s = .next (s.answered .ok (byteOf k :: count :: e.bytes)))) ∧
  (∀ e : Entry, e.bytes.length = 74 ∧ e.bytes.take 2 = bytes16 e.tag ∧ e.bytes[2]? = some e.origin.code ∧
    e.bytes[3]? = some e.phase.code ∧ e.bytes[34]? = some e.downstream.code ∧ e.bytes[35]? = some e.verification.code ∧
    (∀ i, (e.bytes.getD 4 0).getLsbD i = ([e.barThickness.isSome, (e.window.bind PassWindow.up).isSome,
      (e.window.bind PassWindow.own).isSome, (e.window.bind PassWindow.down).isSome, e.biteStamp.isSome, e.headMarks.isSome,
      e.tailStamp.isSome, e.tailMarks.isSome].getD i false)) ∧
    (e.bytes.drop 5).take 2 = bytes16 (e.barThickness.getD 0) ∧
    (e.bytes.drop 7).take 9 = passField (e.window.bind PassWindow.up) ∧
    (e.bytes.drop 16).take 9 = passField (e.window.bind PassWindow.own) ∧
    (e.bytes.drop 25).take 9 = passField (e.window.bind PassWindow.down) ∧
    (∀ i, (e.bytes.getD 36 0).getLsbD i = ([e.flags.tailSeen, e.flags.downstreamGap, e.flags.tagMismatch, e.flags.lateLift,
      e.flags.unsupervised, e.flags.trimFaultHeld].getD i false)) ∧
    (∀ i, (e.bytes.getD 37 0).getLsbD i = ([e.headMarks.any HeadMarks.armReached, e.headMarks.any HeadMarks.lowReached,
      e.headMarks.any HeadMarks.expiryReached, e.tailMarks.any TailMarks.loweringReached,
      e.tailMarks.any TailMarks.overdueReached, e.tailStamp.any TailStamp.void].getD i false)) ∧
    (e.bytes.drop 38).take 4 = bytes32 (e.biteStamp.getD 0) ∧
    (e.bytes.drop 42).take 12 = markField (e.headMarks.map HeadMarks.armPoint) ++ markField (e.headMarks.map HeadMarks.windowLow) ++
      markField (e.headMarks.map HeadMarks.windowHigh) ∧
    (e.bytes.drop 54).take 4 = bytes32 ((e.tailStamp.map TailStamp.position).getD 0) ∧
    (e.bytes.drop 58).take 12 = markField (e.tailMarks.map TailMarks.lowering) ++ markField (e.tailMarks.map TailMarks.tailLow) ++
      markField (e.tailMarks.map TailMarks.tailHigh) ∧
    (e.bytes.drop 70).take 4 = bytes32 (BitVec.ofNat 32 e.age)) ∧
  [Origin.bus, .manual, .anonymous].map Origin.code = [0, 1, 2] ∧
  [Phase.announced, .approaching, .inStand, .tailApproaching, .cleared].map Phase.code = [0, 1, 2, 3, 4] ∧
  [Downstream.noHead, .pending, .inWindow, .untimed, .unconfirmed, .confirmed, .lost].map Downstream.code = [0, 1, 2, 3, 4, 5, 6] ∧
  [Verification.unchecked, .verified, .suspect].map Verification.code = [0, 1, 2]

/-! ### Bites and tails of the neighbours -/

/-- A HEAD_BITE from the upstream neighbour makes the ANNOUNCED entry with its tag APPROACHING, once the ANNOUNCED entries ahead of it
have been given up as PASSED; in another phase, and for tag 0 or an unknown one, it is ignored with UNEXPECTED_FRAME. From a position
that is neither neighbour it changes nothing more. That the telegram that ends SILENT raises BUS_ACTIVE before it is dispatched is the
model's order (log 8). -/
def Obligations.UpstreamBiteMakesTheEntryApproach : Prop :=
  ∀ (c : ConfigRecord) (src : Fin 10) (seq : Byte) (tag speed : Half) (anonymous : Bool) (s : State),
    s.Hears src seq → s.Runs c →
    let t := takenTag anonymous tag
    let u := s.accepted src seq
    let i : Instr := .headBiteReceived src seq tag anonymous speed
    (s.isUpstream src = false → s.isDownstream src = false → exec i s = .next u) ∧
    (s.isUpstream src = true →
      (s.Unknown t → exec i s = .next (u.frameUnexpected 4 src 0 t)) ∧
      (∀ k e, s.Names t k e →
        (e.phase ≠ .announced → exec i s = .next ((u.refreshed k).frameUnexpected 4 src 1 t)) ∧
        (e.phase = .announced → exec i s = .next { (u.passedOver k) with
          table := ((u.passedOver k).table).set (s.slotAfter k) { e with phase := .approaching, origin := e.origin.moved, age := 0 } })))

/-- A HEAD_BITE from the downstream neighbour is matched in the order of R73: an awaiting entry with its tag; BITE_TOO_LATE for a LOST
one; WRONG_PHASE for a CONFIRMED one; otherwise, for tag 0, an unknown tag or that of an entry with status NONE, the oldest awaiting
entry, or NO_CANDIDATE. The entry matched is confirmed. The looper is told of the confirmation before the trim, the model's order (log
8). So is BUS_ACTIVE before the dispatch (log 8), and that BITE_TOO_LATE with the detail ACCEPTED carries the entry's tag is the model's
choice (log 23). -/
def Obligations.DownstreamBiteIsMatchedInOrder : Prop :=
  ∀ (c : ConfigRecord) (src : Fin 10) (seq : Byte) (tag speed : Half) (anonymous : Bool) (s : State),
    s.Hears src seq → s.Runs c → s.isUpstream src = false → s.isDownstream src = true →
    let t := takenTag anonymous tag
    let u := s.accepted src seq
    let i : Instr := .headBiteReceived src seq tag anonymous speed
    (∀ k e, s.Names t k e →
      (e.awaits → exec i s = .next (u.headConfirmed c k e t speed)) ∧
      (e.downstream = .lost → exec i s = .next ((u.refreshed k).raise .biteTooLate t 0)) ∧
      (e.downstream = .confirmed → exec i s = .next ((u.refreshed k).frameUnexpected 4 src 1 t))) ∧
    ((s.Unknown t ∨ ∃ k e, s.Names t k e ∧ e.downstream = .noHead) →
      (∀ k e, s.Oldest Entry.awaits k e → exec i s = .next ((u.touched t).headConfirmed c k e t speed)) ∧
      ((∀ e ∈ s.table, ¬ e.awaits) → exec i s = .next ((u.touched t).frameUnexpected 4 src 4 t)))

/-- The looper sequencer takes the confirmation of the in-stand entry as R128 and R129 state: PARKED or ARMED it lifts, LOWERING it notes
the lift and marks the entry late-lift, in HOLD_OFF the entry goes unsupervised; an entry without a pass window is not lifted for. The trim
then starts exactly under the conditions of R149: a pass window, no tag mismatch, a bite not SUSPECT, no trim fault held, a downstream speed
of 100 mm/s or more; else, and out of OFF, it stays as it is, and so it does for an entry without a pass window. At a station without
looper and trim nothing moves. -/
def Obligations.ConfirmationReachesLooperAndTrim : Prop :=
  (∀ (c : ConfigRecord) (k : Nat) (e : Entry) (s : State), s.InStandIs k e →
     (¬ s.Trims c → s.looperConfirmed c e = s) ∧
     (s.Trims c →
       (s.looper.state = .parked ∨ s.looper.state = .armed →
         (e.window.isSome = true → s.looperConfirmed c e = { s with looper := { s.looper with
           state := .lifting .rise, liftTimer := some c.liftTime.toNat, served := e.tag } }) ∧
         (e.window = none → s.looperConfirmed c e = State.raise .unsupervised e.tag 1 { s with
           looper := { s.looper with state := .parked }
           table := s.table.set k { e with flags := { e.flags with unsupervised := true }, age := 0 } })) ∧
       (s.looper.state = .lowering →
         (e.window.isSome = true → s.looperConfirmed c e = { s with
           looper := { s.looper with liftPending := true }
           table := s.table.set k { e with flags := { e.flags with lateLift := true }, age := 0 } }) ∧
         (e.window = none → s.looperConfirmed c e = s)) ∧
       (s.looper.state = .holdOff → s.looperConfirmed c e = State.raise .unsupervised e.tag 0 { s with
         table := s.table.set k { e with flags := { e.flags with unsupervised := true }, age := 0 } }))) ∧
  (∀ (c : ConfigRecord) (e : Entry) (own down : PassEntry) (w : PassWindow) (vd : Half) (s : State),
     e.window = some w → w.own = some own → w.down = some down →
     (s.Trims c → s.trim.state = .off → e.flags.tagMismatch = false → e.verification ≠ .suspect →
       e.flags.trimFaultHeld = false → 100 ≤ vd.toNat →
       s.trimConfirmed c e vd = State.tracked c e.tag own down vd { s with trim := { s.trim with saturated := false } }) ∧
     (¬ s.Trims c ∨ s.trim.state ≠ .off ∨ e.flags.tagMismatch = true ∨ e.verification = .suspect ∨
       e.flags.trimFaultHeld = true ∨ vd.toNat < 100 → s.trimConfirmed c e vd = s)) ∧
  (∀ (c : ConfigRecord) (e : Entry) (vd : Half) (s : State), e.window = none → s.trimConfirmed c e vd = s)

/-- A TAIL_OUT from the upstream neighbour is taken by the in-stand entry while that is IN_STAND and the telegram has its tag, tag 0 or
an unknown one: TAIL_APPROACHING, with tail stamp and tail marks, and the marks the position has reached reported at once. Otherwise it
goes to an entry not yet at the stand, as R68 states. ORDER for tag 0 and an anonymous in-stand entry, and the void stamp of a stall,
are the model's reading (logs 12 and 13). That the telegram that ends SILENT raises BUS_ACTIVE before it is dispatched is the model's
order (log 8). That no tail stamp is set at the EXIT station is the model's reading (log 27). -/
def Obligations.UpstreamTailIsTakenOrAttributed : Prop :=
  ∀ (c : ConfigRecord) (src : Fin 10) (seq : Byte) (tag : Half) (anonymous : Bool) (s : State),
    s.Hears src seq → s.Runs c → s.isUpstream src = true →
    let t := takenTag anonymous tag
    let u := s.accepted src seq
    let i : Instr := .tailOutReceived src seq tag anonymous
    (∀ k e, s.InStandIs k e → e.phase = .inStand → (e.tag = t ∨ s.Unknown t) →
      let f := e.withTailMarks c s
      let v := State.reportMarks c k (inReportOrder (f.tailDue s.stand.pulse)) { u with table := s.table.set k f }
      (s.Unknown t → exec i s = .next (v.frameUnexpected 5 src 2 t)) ∧ (¬ s.Unknown t → exec i s = .next v)) ∧
    ((∀ k e, s.InStandIs k e → e.phase = .inStand → e.tag ≠ t ∧ ¬ s.Unknown t) →
      (∀ k e, s.Names t k e →
        (e.phase = .approaching → e.flags.tailSeen = false →
          exec i s = .next { u with table := s.table.set k (e.withTail s) }) ∧
        (e.phase = .announced → exec i s = .next (State.frameUnexpected 5 src 3 t { (u.passedOver k) with
          table := ((u.passedOver k).table).set (s.slotAfter k) (e.withTail s) })) ∧
        (e.phase = .inStand ∨ e.phase = .tailApproaching ∨ e.phase = .cleared ∨
            (e.phase = .approaching ∧ e.flags.tailSeen = true) →
          exec i s = .next ((u.refreshed k).frameUnexpected 5 src 1 t))) ∧
      (s.Unknown t →
        ((∀ e ∈ s.table, e.phase ≠ .approaching) → exec i s = .next (u.frameUnexpected 5 src 4 t)) ∧
        (∀ k e, s.Oldest (fun e => e.phase = .approaching) k e →
          (e.flags.tailSeen = true → exec i s = .next ((u.refreshed k).frameUnexpected 5 src 1 t)) ∧
          (e.flags.tailSeen = false → exec i s = .next
            (State.frameUnexpected 5 src 2 t { u with table := s.table.set k (e.withTail s) })))))

/-- A TAIL_OUT from the downstream neighbour removes the CLEARED entry with its tag, or for tag 0 or an unknown tag the oldest CLEARED
entry, with PIECE_RETIRED and its downstream status; an entry in another phase stays, and UNEXPECTED_FRAME says so. That the telegram
that ends SILENT raises BUS_ACTIVE before it is dispatched is the model's order (log 8). -/
def Obligations.DownstreamTailRetiresAClearedEntry : Prop :=
  ∀ (c : ConfigRecord) (src : Fin 10) (seq : Byte) (tag : Half) (anonymous : Bool) (s : State), s.Hears src seq → s.Runs c →
    let t := takenTag anonymous tag
    let u := s.accepted src seq
    let i : Instr := .tailOutReceived src seq tag anonymous
    (s.isUpstream src = false → s.isDownstream src = false → exec i s = .next u) ∧
    (s.isUpstream src = false → s.isDownstream src = true →
      (∀ k e, s.Names t k e ∨ (s.Unknown t ∧ s.Oldest (fun e => e.phase = .cleared) k e) → e.phase = .cleared →
        exec i s = .next
          (State.raise .pieceRetired e.tag (e.downstream.code.setWidth 16) { u with table := s.table.eraseIdx k })) ∧
      (∀ k e, s.Names t k e → e.phase ≠ .cleared → exec i s = .next ((u.refreshed k).frameUnexpected 5 src 1 t)) ∧
      (s.Unknown t → (∀ e ∈ s.table, e.phase ≠ .cleared) → exec i s = .next (u.frameUnexpected 5 src 4 t)))

/-! ### Trim telegrams -/

/-- A matching SPEED_REPORT from the downstream neighbour: of 100 mm/s or more it gives a TRACKING trim, or a HELD one whose entry is
not trim-fault-held, a new target and starts the report age timer; a lower one holds a TRACKING trim as SPEED_LOW. Any other report, and
any in OFF or RAMP_OUT, changes no trim state. That the telegram that ends SILENT raises BUS_ACTIVE before it is dispatched is the
model's order (log 8). -/
def Obligations.SpeedReportRetargetsOrHoldsTheTrim : Prop :=
  ∀ (c : ConfigRecord) (src : Fin 10) (seq : Byte) (t vd : Half) (s : State), s.Hears src seq → s.Runs c →
    let u := s.accepted src seq
    let i : Instr := .speedReportReceived src seq t vd
    (∀ k e w own down, s.Trims c → s.TrimHears src t k e → e.window = some w → w.own = some own → w.down = some down →
      100 ≤ vd.toNat → s.trim.state = .tracking ∨ (s.trim.state = .held ∧ e.flags.trimFaultHeld = false) →
      exec i s = .next (u.tracked c e.tag own down vd)) ∧
    (∀ k e, s.Trims c → s.TrimHears src t k e →
      (vd.toNat < 100 → s.trim.state = .tracking → exec i s = .next
        (State.raise .trimHeld e.tag 0 { u with trim := { s.trim with state := .held, ageTimer := none } })) ∧
      ((s.trim.state = .held ∧ (vd.toNat < 100 ∨ e.flags.trimFaultHeld = true)) ∨ s.trim.state = .off ∨
        s.trim.state = .rampOut → exec i s = .next u)) ∧
    (¬ s.Trims c ∨ s.isDownstream src = false ∨
      (∀ e ∈ s.table, e.phase ≠ .inStand ∧ e.phase ≠ .tailApproaching) ∨
      (∃ k e, s.InStandIs k e ∧ t ≠ e.tag ∧ t ≠ 0) → exec i s = .next u)

/-- A matching HANDOFF_FAULT from the downstream neighbour, whatever its code, marks the in-stand entry trim-fault-held, whatever the
trim state, and holds a TRACKING trim of a station that trims; any other changes nothing. That a station that does not trim sets the
flag too is the model's reading (log 26). That the telegram that ends SILENT raises BUS_ACTIVE before it is dispatched is the model's
order (log 8). -/
def Obligations.HandoffFaultHoldsTheTrim : Prop :=
  ∀ (c : ConfigRecord) (src : Fin 10) (seq : Byte) (t : Half) (code : Byte) (s : State), s.Hears src seq → s.Runs c →
    let u := s.accepted src seq
    let i : Instr := .handoffFaultReceived src seq t code
    (∀ k e, s.TrimHears src t k e →
      let marked := s.table.set k { e with flags := { e.flags with trimFaultHeld := true }, age := 0 }
      (s.trim.state = .tracking → s.Trims c → exec i s = .next (State.raise .trimHeld e.tag (half 2 code)
        { u with table := marked, trim := { s.trim with state := .held, ageTimer := none } })) ∧
      (s.trim.state ≠ .tracking ∨ ¬ s.Trims c → exec i s = .next { u with table := marked })) ∧
    (s.isDownstream src = false ∨
      (∀ e ∈ s.table, e.phase ≠ .inStand ∧ e.phase ≠ .tailApproaching) ∨
      (∃ k e, s.InStandIs k e ∧ t ≠ e.tag ∧ t ≠ 0) → exec i s = .next u)

/-- The matching speed is the quotient V_d × H_d × (1000 + S_d) by H_own × (1000 + S_own) rounded to the nearest, a half up: twice the
quotient lies from 2V − 1 up to, and not including, 2V + 1. -/
def Obligations.MatchingSpeedIsTheRoundedQuotient : Prop :=
  ∀ (vd hd sd hOwn sOwn v : Nat), 0 < hOwn →
    (matchingSpeed vd hd sd hOwn sOwn = v ↔
      (2 * v - 1 : Int) * (hOwn * (1000 + sOwn)) ≤ 2 * (vd * hd * (1000 + sd)) ∧
      (2 * (vd * hd * (1000 + sd)) : Int) < (2 * v + 1) * (hOwn * (1000 + sOwn)))

/-! ### Train stop and resume -/

/-- In RUNNING a TRAIN_STOP telegram whose level is from 1 to 7 and at or above the stop threshold takes the station into STOPPED with
STOP_ACTED; any other raises STOP_IGNORED and no more; in LINKING and STOPPED it has no effect. The TRAIN_STOP command in RUNNING or
STOPPED queues a TRAIN_STOP of its level, 1 to 7, with cause HOST; a RUNNING station takes its own stop whatever its threshold. Another
level is refused, and so is the command in another state. That the telegram that ends SILENT raises BUS_ACTIVE before it is dispatched
is the model's order (log 8). -/
def Obligations.TrainStopStopsARunningStation : Prop :=
  (∀ (src : Fin 10) (seq level cause : Byte) (s : State), s.Hears src seq →
     let u := s.accepted src seq
     let detail : Half := half level (BitVec.ofNat 4 src.val ++ cause.setWidth 4 : BitVec 8)
     (∀ c, s.Runs c →
       (1 ≤ level.toNat → level.toNat ≤ 7 → c.stopThreshold.toNat ≤ level.toNat →
         exec (.trainStopReceived src seq level cause) s = .next (u.stopped.raise .stopActed 0 detail)) ∧
       (level.toNat = 0 ∨ 7 < level.toNat ∨ level.toNat < c.stopThreshold.toNat →
         exec (.trainStopReceived src seq level cause) s = .next (u.raise .stopIgnored 0 detail))) ∧
     (s.station.state ≠ .running → exec (.trainStopReceived src seq level cause) s = .next u)) ∧
  (∀ (level : Byte) (s : State), s.host.softResetDue = false →
     let v := s.opened.queueTelegram (.trainStop level 0)
     (1 ≤ level.toNat → level.toNat ≤ 7 → s.station.state = .running → exec (.trainStop [level]) s = .next
       ((v.stopped.raise .stopActed 0 (half level (s.station.position ++ (0 : BitVec 4) : BitVec 8))).respond .ok [])) ∧
     (1 ≤ level.toNat → level.toNat ≤ 7 → s.station.state = .stopped →
       exec (.trainStop [level]) s = .next (v.respond .ok [])) ∧
     (level.toNat = 0 ∨ 7 < level.toNat → s.station.state = .running ∨ s.station.state = .stopped →
       exec (.trainStop [level]) s = .next (s.answered .badArgument [])) ∧
     (s.station.state ≠ .running → s.station.state ≠ .stopped →
       exec (.trainStop [level]) s = .next (s.answered .wrongState [])))

/-- A resume, by telegram or by the TRAIN_RESUME command, takes a STOPPED station with an UNLOADED detector into RUNNING with RESUMED;
with any other detector state it stays STOPPED, with RESUME_REFUSED. Otherwise the telegram has no effect, and the command queues the
telegram in RUNNING and STOPPED and is refused elsewhere. That the telegram that ends SILENT raises BUS_ACTIVE before it is dispatched
is the model's order (log 8). -/
def Obligations.ResumeNeedsAnUnloadedDetector : Prop :=
  (∀ (src : Fin 10) (seq : Byte) (s : State), s.Hears src seq →
    let u := s.accepted src seq
    (s.station.state = .stopped → s.detector.state = .unloaded → exec (.trainResumeReceived src seq) s = .next
      (State.raise .resumed 0 (BitVec.ofNat 16 src.val) { u with station := { s.station with state := .running } })) ∧
    (s.station.state = .stopped → s.detector.state ≠ .unloaded → exec (.trainResumeReceived src seq) s = .next
      (u.raise .resumeRefused 0 (half (BitVec.ofNat 8 src.val) s.detector.state.code))) ∧
    (s.station.state ≠ .stopped → exec (.trainResumeReceived src seq) s = .next u)) ∧
  (∀ s : State, s.host.softResetDue = false →
    let v := s.opened.queueTelegram .trainResume
    (s.station.state = .stopped → s.detector.state = .unloaded → exec (.trainResume []) s = .next
      ((State.raise .resumed 0 (s.station.position.setWidth 16)
        { v with station := { s.station with state := .running } }).respond .ok [])) ∧
    (s.station.state = .stopped → s.detector.state ≠ .unloaded → exec (.trainResume []) s = .next
      ((v.raise .resumeRefused 0 (half (s.station.position.setWidth 8) s.detector.state.code)).respond .ok [])) ∧
    (s.station.state = .running → exec (.trainResume []) s = .next (v.respond .ok [])) ∧
    (s.station.state ≠ .running → s.station.state ≠ .stopped →
      exec (.trainResume []) s = .next (s.answered .wrongState [])))

/-! ### Transmit queues and attempts -/

/-- What queuing a telegram does: discarded without trace while SILENT or FAULTED; a STOP or EVENT telegram joins the tail of its queue,
or is dropped with TX_DROP where that is full; a REPORT or LINK telegram replaces the one held, an attempt on the line of its class
running on without its telegram. -/
def Obligations.QueuingATelegramFollowsItsClass : Prop :=
  ∀ (t : Telegram) (s : State),
    (s.bus.state = .silent ∨ s.station.state = .faulted → s.queueTelegram t = s) ∧
    (s.bus.state = .active → s.station.state ≠ .faulted →
      (t.cls = .stop → s.bus.stopQueue.length < 2 → s.queueTelegram t =
        { s with bus := { s.bus with stopQueue := s.bus.stopQueue ++ [{ telegram := t, failed := 0, seq := none }] } }) ∧
      (t.cls = .event → s.bus.eventQueue.length < 8 → s.queueTelegram t =
        { s with bus := { s.bus with eventQueue := s.bus.eventQueue ++ [{ telegram := t, failed := 0, seq := none }] } }) ∧
      (t.cls = .stop ∧ 2 ≤ s.bus.stopQueue.length ∨ t.cls = .event ∧ 8 ≤ s.bus.eventQueue.length →
        s.queueTelegram t = s.dropped t 0) ∧
      (t.cls = .report → s.queueTelegram t = { s with bus := { s.bus with
        reportQueue := [{ telegram := t, failed := 0, seq := none }]
        attempt := s.bus.attempt.map fun a => if a.cls = .report then { a with queued := false } else a } }) ∧
      (t.cls = .link → s.queueTelegram t = { s with bus := { s.bus with
        linkQueue := [{ telegram := t, failed := 0, seq := none }]
        attempt := s.bus.attempt.map fun a => if a.cls = .link then { a with queued := false } else a } }))

/-- The slots of an idle period are counted from 0, and after 43 from 0 again. An ACTIVE bus unit begins an attempt when the count comes to
4 + 10 × class + position for the telegram that heads its highest-priority queue at that slot; the telegram takes the station's number at
its first attempt, and the station's number advances. At any other slot, while SILENT, and with nothing queued the count goes on; within
a cycle of 44 slots an attempt begins where there is something to send. The model's choices are that the count is compared as it comes to a
slot and that ATTEMPT_BEGIN begins a count at 0 where none is counted (log 4), that it ends a lost frame (log 15), and that it has no effect
during an attempt (log 18). -/
def Obligations.AttemptBeginsAtTheDeferral : Prop :=
  (∀ (slots : Nat) (s : State), s.bus.attempt ≠ none → exec (.attemptBegin slots) s = .next s) ∧
  (∀ (slots : Nat) (s : State), s.bus.attempt = none → s.bus.line = .busy ∨ s.bus.line = .lost →
    exec (.attemptBegin slots) s = exec (.attemptBegin slots) (s.idleAt 0)) ∧
  (∀ (n m : Fin 44) (slots : Nat) (s : State), s.bus.attempt = none → s.bus.line = .idle n →
    (m.val = if n.val = 43 then 0 else n.val + 1) →
    exec (.attemptBegin 0) s = .next s ∧
    (∀ cls q rest, s.bus.Heads cls q rest →
      (s.bus.state = .active → m.val = 4 + 10 * cls.number + s.station.position.toNat →
        (∀ k, q.seq = some k → exec (.attemptBegin (slots + 1)) s = .next { s with bus := { s.bus with
          line := .busy, attempt := some { telegram := q.telegram, seq := k, cls := cls, queued := true } } }) ∧
        (q.seq = none → exec (.attemptBegin (slots + 1)) s = .next { s with bus :=
          { (s.bus.withQueue ({ q with seq := some s.bus.ownSeq } :: rest) cls) with
            ownSeq := s.bus.ownSeq + 1, line := .busy
            attempt := some { telegram := q.telegram, seq := s.bus.ownSeq, cls := cls, queued := true } } })) ∧
      (s.bus.state = .silent ∨ m.val ≠ 4 + 10 * cls.number + s.station.position.toNat →
        exec (.attemptBegin (slots + 1)) s = exec (.attemptBegin slots) (s.idleAt m))) ∧
    ((∀ cls, s.bus.queue cls = []) → exec (.attemptBegin (slots + 1)) s = exec (.attemptBegin slots) (s.idleAt m))) ∧
  (∀ (cls : TxClass) (q : Queued) (rest : List Queued) (s : State), s.bus.Heads cls q rest → s.bus.state = .active →
    s.bus.attempt = none → s.station.position.toNat ≤ 9 →
    ∃ t, exec (.attemptBegin 44) s = .next t ∧ t.bus.line = .busy ∧ t.bus.attempt =
      some { telegram := q.telegram, seq := q.seq.getD s.bus.ownSeq, cls := cls, queued := true })

/-- An attempt that succeeds takes its telegram from its queue, counts in TX_GOOD and ends the row of failures. One that fails counts in
TX_FAIL and in that row; its telegram stays at the head of its queue, or is dropped at its fourth failure; the sixteenth failure in a row
makes the bus unit SILENT, its queues empty. A telegram that has left its queue meanwhile is neither removed nor retried. After a success
the idle period counts its slots from 0; after a failure the rest of the frame is lost, and a reception in it is not taken: the line is idle
after it (log 15). With no attempt on the line nothing ends (log 18). -/
def Obligations.AttemptEndsInSuccessOrFailure : Prop :=
  (∀ (a : Attempt) (s : State), s.bus.attempt = some a →
    let done (b : Bus) : Bus :=
      { b with
        attempt := none, line := .idle 0, failures := 0
        counters := { s.bus.counters with txGood := satAdd s.bus.counters.txGood 1 } }
    (a.queued = true → exec .attemptSuccess s = .next
      { s with bus := done (s.bus.withQueue (s.bus.queue a.cls).tail a.cls) }) ∧
    (a.queued = false → exec .attemptSuccess s = .next { s with bus := done s.bus })) ∧
  (∀ (a : Attempt) (s : State), s.bus.attempt = some a →
    let b := s.bus.attemptFailed
    let ended (v : State) : State :=
      if s.bus.failures + 1 < 16 then v else State.raise .busSilent 0 0 { v with bus := v.bus.silenced }
    (a.queued = false → exec .attemptFail s = .next (ended { s with bus := b })) ∧
    (∀ q rest, a.queued = true → s.bus.queue a.cls = q :: rest →
      (q.failed + 1 < 4 → exec .attemptFail s = .next
        (ended { s with bus := b.withQueue ({ q with failed := q.failed + 1 } :: rest) a.cls })) ∧
      (4 ≤ q.failed + 1 → exec .attemptFail s = .next
        (ended (State.dropped q.telegram 1 { s with bus := b.withQueue rest a.cls }))))) ∧
  (∀ (a : Attempt) (t : Telegram) (src : Fin 10) (seq : Byte) (s u : State), s.bus.attempt = some a → exec .attemptFail s = .next u →
    u.bus.line = .lost ∧ u.bus.attempt = none ∧ exec (t.received src seq) u = .next (u.idleAt 0)) ∧
  (∀ s : State, s.bus.attempt = none → exec .attemptSuccess s = .next s ∧ exec .attemptFail s = .next s)

/-! ### The host port -/

/-- An event joins the youngest end of the queue while there is room for 32. In a full queue it displaces the youngest event of the greatest
class queued, where that class is greater than its own, and is discarded otherwise; either way the overflow count advances, to 255 at
most, and EVENT_OVERFLOW goes on. An event displaced while its record is being clocked out is not removed again. -/
def Obligations.EventQueueGivesUpTheLeastUrgentEvent : Prop :=
  (∀ (e : Event) (h : HostPort),
    (h.events.length < 32 → h.raise e = { h with events := h.events ++ [e] }) ∧
    (32 ≤ h.events.length → (∀ q ∈ h.events, q.kind.cls ≤ e.kind.cls) → h.raise e = h.overflowed) ∧
    (∀ i d, 32 ≤ h.events.length → h.events[i]? = some d → e.kind.cls < d.kind.cls →
      (∀ q ∈ h.events, q.kind.cls ≤ d.kind.cls) → (∀ j, i < j → ∀ q ∈ h.events[j]?, q.kind.cls < d.kind.cls) →
      h.raise e = HostPort.overflowed { h with
        events := h.events.eraseIdx i ++ [e]
        reading := if i = 0 ∧ h.reading = .head then .displaced else h.reading })) ∧
  (∀ (kind : EventKind) (tag detail : Half) (s : State), s.raise kind tag detail =
    { s with host := s.host.raise { kind := kind, tag := tag, detail := detail, stamp := s.timeBase.setWidth 16 } })

/-- EVENT_READ returns the head event, which stays queued until its record is clocked out and is then removed, unless the overflow rule has
removed it meanwhile; on an empty queue it returns NONE. FAULT_CLEAR clears the latched flags it names, with the overflow count where it
names EVENT_OVERFLOW, and is refused where it names another bit. The eleven flags are the latched ones and STOPPED, FAULTED and SILENT, each
on exactly while its state stands. IRQ# is asserted while an event of a class at or below the threshold is queued, FAULT# while an enabled
flag is on.
That a record clocked out while none is being read changes nothing is the model's choice (log 18). -/
def Obligations.HostReadsEventsAndClearsFlags : Prop :=
  ((∀ s : State, s.host.softResetDue = false →
     (s.host.events = [] → exec (.eventRead []) s = .next (s.answered .ok (List.replicate 8 0))) ∧
     (∀ e rest, s.host.events = e :: rest →
       let v := s.answered .ok ([BitVec.ofNat 8 (e.kind.ctorIdx + 1), BitVec.ofNat 8 e.kind.cls] ++ bytes16 e.tag ++ bytes16 e.detail ++
         bytes16 e.stamp)
       exec (.eventRead []) s = .next { v with host := { v.host with reading := .head } })) ∧
   (∀ s : State,
     (s.host.reading = .head → exec .eventRecordClockedOut s =
       .next { s with host := { s.host with events := s.host.events.tail, reading := .idle } }) ∧
     (s.host.reading = .displaced → exec .eventRecordClockedOut s = .next { s with host := { s.host with reading := .idle } }) ∧
     (s.host.reading = .idle → exec .eventRecordClockedOut s = .next s))) ∧
  ((∀ (mask : Half) (s : State), s.host.softResetDue = false →
     (256 ≤ mask.toNat → exec (.faultClear (bytes16 mask)) s = .next (s.answered .badArgument [])) ∧
     (mask.toNat < 256 → exec (.faultClear (bytes16 mask)) s = .next (State.answered .ok [] { s with host := { s.host with
       latched := s.host.latched &&& ~~~(mask.setWidth 8)
       overflow := if mask.getLsbD 6 = true then 0 else s.host.overflow } }))) ∧
   (∀ (f : LatchedFlag) (s : State), s.setFlag f = { s with host := { s.host with
     latched := s.host.latched ||| ((1 : Byte) <<< f.ctorIdx) } }) ∧
   (∀ s : State,
     (∀ i, i < 8 → s.faultFlags.getLsbD i = s.host.latched.getLsbD i) ∧
     (s.faultFlags.getLsbD 8 = true ↔ s.station.state = .stopped) ∧ (s.faultFlags.getLsbD 9 = true ↔ s.station.state = .faulted) ∧
     (s.faultFlags.getLsbD 10 = true ↔ s.bus.state = .silent) ∧ (∀ i, 11 ≤ i → s.faultFlags.getLsbD i = false) ∧
     (s.station.config = none → s.faultAsserted = false ∧ (s.irqAsserted = true ↔ s.host.events ≠ [])) ∧
     (∀ c, s.station.config = some c →
       (s.irqAsserted = true ↔ ∃ e ∈ s.host.events, e.kind.cls ≤ c.irqThreshold.toNat) ∧
       (s.faultAsserted = true ↔ ∃ i, s.faultFlags.getLsbD i = true ∧ c.faultEnables.getLsbD i = true))))

/-- STATUS_READ answers in every state, changing nothing of the block's, with a record of 48 bytes, in which every field of Table 11.5
stands at its offset, a named value as its place in its list and a field with nothing to report as 0 (log 16). COUNTERS_READ answers in
every state with the ten counters, two bytes each, and sets all ten to 0 in the same step. -/
def Obligations.StatusAndCountersAreRead : Prop :=
  (∀ s : State, s.host.softResetDue = false → exec (.statusRead []) s = .next (s.answered .ok s.statusRecord)) ∧
  (∀ s : State, let r := s.statusRecord
    r.length = 48 ∧
    (r[0]? = some s.station.state.code ∧ r[1]? = some (s.station.position.setWidth 8) ∧ r[2]? = some (roleOf s.station.position).code ∧
      r[3]? = some (if s.station.config = none then 0 else 1) ∧
      (∀ cause src, s.station.fault = some (cause, src) → r[4]? = some cause.code ∧ r[5]? = some (BitVec.ofNat 8 src.val)) ∧
      (s.station.fault = none → r[4]? = some 0 ∧ r[5]? = some 0) ∧
      r[6]? = some (BitVec.ofNat 8 s.station.lines.length) ∧
      (r.drop 7).take 6 = lineField s.station.lines[0]? ++ lineField s.station.lines[1]?) ∧
    (r[13]? = some s.bus.state.code ∧ r[14]? = some (BitVec.ofNat 8 s.bus.failures) ∧ r[15]? = some (BitVec.ofNat 8 s.bus.good) ∧
      r[16]? = some s.bus.ownSeq ∧
      (r.drop 17).take 4 = [BitVec.ofNat 8 s.bus.stopQueue.length, BitVec.ofNat 8 s.bus.eventQueue.length,
        BitVec.ofNat 8 s.bus.reportQueue.length, BitVec.ofNat 8 s.bus.linkQueue.length] ∧
      (∀ i, (r.getD 25 0).getLsbD i = ([s.stand.sampleLoss, s.stand.encoderStall].getD i false)) ∧ (r.drop 21).take 4 = bytes32 s.stand.pulse) ∧
    (r[26]? = some s.detector.state.code ∧ r[27]? = some s.detector.verify.code ∧ r[28]? = some s.looper.state.code ∧
      r[29]? = some s.looper.state.phaseCode ∧ r[39]? = some (if s.trim.saturated then 1 else 0) ∧ (r.drop 30).take 2 = bytes16 s.looper.served ∧
      (r.drop 32).take 2 = bytes16 (BitVec.ofNat 16 s.looper.integrator) ∧ r[34]? = some s.trim.state.code ∧
      (r.drop 35).take 4 = bytes16 (BitVec.ofInt 16 s.trim.target) ++ bytes16 (BitVec.ofInt 16 s.trim.current)) ∧
    (r[40]? = some (BitVec.ofNat 8 s.table.length) ∧ r[41]? = some (BitVec.ofNat 8 s.host.events.length) ∧
      r[42]? = some s.host.overflow ∧ (r.drop 43).take 2 = bytes16 s.faultFlags ∧
      ((r.getD 45 0).getLsbD 0 = s.irqAsserted ∧ (r.getD 45 0).getLsbD 1 = s.faultAsserted) ∧
      (r.drop 46).take 2 = bytes16 (s.timeBase.setWidth 16))) ∧
  (∀ s : State, s.host.softResetDue = false → exec (.countersRead []) s = .next (State.answered .ok
    (bytes16 s.bus.counters.rxGood ++ bytes16 s.bus.counters.rxCrc ++ bytes16 s.bus.counters.rxMalformed ++
      bytes16 s.bus.counters.rxRepeat ++ bytes16 s.bus.counters.seqGaps ++ bytes16 s.bus.counters.txGood ++
      bytes16 s.bus.counters.txFail ++ bytes16 s.bus.counters.txDrop ++ bytes16 s.stand.sampleGaps ++ bytes16 s.stand.sampleErrors)
    { s with
      bus := { s.bus with counters :=
        { rxGood := 0, rxCrc := 0, rxMalformed := 0, rxRepeat := 0, seqGaps := 0, txGood := 0, txFail := 0, txDrop := 0 } }
      stand := { s.stand with sampleGaps := 0, sampleErrors := 0 } })) ∧
  [StationState.configuring, .linking, .running, .stopped, .faulted].map StationState.code = [0, 1, 2, 3, 4] ∧
  [Role.entry, .stand, .exit, .invalid].map Role.code = [0, 1, 2, 3] ∧
  [FaultCause.trainMismatch, .distanceMismatch, .duplicatePosition].map FaultCause.code = [1, 2, 3] ∧
  [AcqState.seek, .matched, .acked].map AcqState.code = [0, 1, 2] ∧ [BusState.active, .silent].map BusState.code = [0, 1] ∧
  (∀ (p : Word) (n : Nat), [DetectorState.unloaded, .onPending p n, .loaded, .offPending p n].map DetectorState.code = [0, 1, 2, 3]) ∧
  (∀ (f : Half) (l h : Nat) (p : Word), [VerifyState.idle, .awaiting f l h p].map VerifyState.code = [0, 1]) ∧
  [LooperState.parked, .armed, .lifting .rise, .lifting .settle, .regulating, .lowering, .holdOff].map LooperState.code =
    [0, 1, 2, 2, 3, 4, 5] ∧
  [LooperState.parked, .armed, .lifting .rise, .lifting .settle, .regulating, .lowering, .holdOff].map LooperState.phaseCode =
    [0, 0, 1, 2, 0, 0, 0] ∧
  [TrimState.off, .tracking, .held, .rampOut].map TrimState.code = [0, 1, 2, 3]

/-- A transaction's bytes are the command of the code with the arguments its length byte announces, bytes after them ignored; broken off
sooner, they are no command, change nothing and return no status. Each byte is shifted most significant bit first on SPI_DI and SPI_DO, and
bits short of a byte are none (log 17). A wrong argument length is refused with BAD_LENGTH before any other
test, an unknown code with BAD_ARGUMENT. SPI_DO carries 0 while the host is sending, then the status and the data. SOFT_RESET answers OK,
and when its transaction has ended, which the model takes to be when the next one begins (log 9), the station is reset. That an unknown
code is one whatever its number is the model's reading (log 17). -/
def Obligations.TransactionsCarryCommands : Prop :=
  ((∀ (code : Byte) (args extra : List Byte), args.length < 256 →
      spiTransaction (code :: BitVec.ofNat 8 args.length :: (args ++ extra)) = hostCommand code args) ∧
    (∀ (code len : Byte) (args : List Byte), args.length < len.toNat →
      spiTransaction (code :: len :: args) = .spiTransactionAborted (code :: len :: args)) ∧
    spiTransaction [] = .spiTransactionAborted [] ∧ (∀ code : Byte, spiTransaction [code] = .spiTransactionAborted [code]) ∧
    (∀ (code : Byte) (args : List Byte),
      (∀ i f, hostCommands[i]? = some f → hostCommand (BitVec.ofNat 8 (i + 1)) args = f args) ∧
      (code.toNat = 0 ∨ 17 < code.toNat → hostCommand code args = .unknownCommand code args))) ∧
  (∀ (code : Byte) (args : List Byte) (s : State), s.host.softResetDue = false →
    exec (.unknownCommand code args) s = .next (s.answered .badArgument []) ∧
    exec (.spiTransactionAborted args) s = .next s.opened ∧
    (∀ p ∈ fixedLengthCommands, args.length ≠ p.2 → exec (p.1 args) s = .next (s.answered .badLength [])) ∧
    exec (.softReset []) s =
      .next { s.answered .ok [] with host := { (s.answered .ok []).host with softResetDue := true } }) ∧
  (∀ (code : Byte) (args : List Byte) (s : State), s.host.softResetDue = true →
    let reset : State := { State.atReset s.strap s.stand.encA s.stand.encB with pending := s.pending, freeCount := s.freeCount }
    exec (hostCommand code args) s = exec (hostCommand code args) reset ∧
    exec (.spiTransactionAborted args) s = .next reset.opened) ∧
  ((∀ (code : Byte) (args extra : List Byte) (r : Response) (s : State), args.length < 256 → s.host.response = some r →
      s.spiOutput (code :: BitVec.ofNat 8 args.length :: (args ++ extra)) =
        List.replicate (2 + args.length) 0 ++ (r.status.code :: r.data).take extra.length) ∧
    (∀ (sent : List Byte) (s : State), incompleteTransaction sent = true → s.spiOutput sent = List.replicate sent.length 0) ∧
    (∀ (sent : List Byte) (part : List Bool), part.length < 8 →
      let line := (sent.flatMap fun b => (List.range 8).map fun i => b.getMsbD i) ++ part
      receiveTransaction line = spiTransaction sent ∧
      (∀ s : State, incompleteTransaction sent = true → s.spiBitsOutput line = List.replicate line.length false) ∧
      (∀ (code : Byte) (args extra : List Byte) (r : Response) (s : State), args.length < 256 → s.host.response = some r →
        sent = code :: BitVec.ofNat 8 args.length :: (args ++ extra) →
        s.spiBitsOutput line = (List.replicate (8 * (2 + args.length)) false ++
          ((r.status.code :: r.data).flatMap fun b => (List.range 8).map fun i => b.getMsbD i)).take line.length)) ∧
    [Status.ok, .notFound, .full, .duplicate, .active, .wrongState, .wrongRole, .badArgument, .badLength].map Status.code =
      [0, 1, 2, 3, 4, 5, 6, 7, 8])

/-- BUS_RELINK takes a SILENT bus unit to ACTIVE in every station state, both counts 0, with BUS_ACTIVE, and is refused while ACTIVE.
LOOPER_RELEASE tests the station state, whether there is a looper, and whether it is in HOLD_OFF, in this order, and takes it to PARKED;
so does the expiry of the hold-off timer. -/
def Obligations.RelinkAndReleaseEndTheirConditions : Prop :=
  (∀ s : State, s.host.softResetDue = false →
    (s.bus.state = .silent → exec (.busRelink []) s = .next ((State.raise .busActive 0 1
      { s.opened with bus := { s.bus with state := .active, failures := 0, good := 0 } }).respond .ok [])) ∧
    (s.bus.state = .active → exec (.busRelink []) s = .next (s.answered .wrongState []))) ∧
  (∀ s : State, s.host.softResetDue = false → s.station.state ≠ .running → s.station.state ≠ .stopped →
    exec (.looperRelease []) s = .next (s.answered .wrongState [])) ∧
  (∀ (c : ConfigRecord) (s : State), s.host.softResetDue = false → s.station.config = some c →
    let taken := s.station.state = .running ∨ s.station.state = .stopped
    (taken → ¬ s.Trims c → exec (.looperRelease []) s = .next (s.answered .wrongRole [])) ∧
    (taken → s.Trims c → s.looper.state ≠ .holdOff → exec (.looperRelease []) s = .next (s.answered .wrongState [])) ∧
    (taken → s.Trims c → s.looper.state = .holdOff → exec (.looperRelease []) s = .next
      (State.answered .ok [] { s with looper := { s.looper with state := .parked, holdOffTimer := none } }))) ∧
  (∀ s : State, s.looper.state = .holdOff → s.looper.holdOffTimer = some 0 →
    exec .holdOffExpiry s = .next { s with looper := { s.looper with state := .parked, holdOffTimer := none } })

/-! ### Expiries -/

/-- In LINKING the expiry of the announce timer queues a linking ANNOUNCE that lists the neighbours MATCHED or ACKED and restarts the timer;
that of the link timer raises LINK_TIMEOUT with the neighbours not ACKED and restarts it. Outside LINKING, and where the timer is not at
its end (log 2), the commands change nothing. -/
def Obligations.LinkingTimersAnnounceAndComplain : Prop :=
  ∀ (c : ConfigRecord) (s : State), s.station.config = some c →
    (s.station.state = .linking → s.station.announceTimer = some 0 →
      ∃ heard : BitVec 10, (∀ p : Fin 10, heard.getLsbD p.val = true ↔ ∃ m ∈ s.station.lines, m.position = p ∧ m.state ≠ .seek) ∧
        exec .announceTimerExpiry s = .next (State.queueTelegram (linkingAnnounce c heard)
          { s with station := { s.station with announceTimer := some c.announcePeriod.toNat } })) ∧
    (s.station.state = .linking → s.station.linkTimer = some 0 →
      ∃ missing : Half,
        (∀ i, missing.getLsbD i = true ↔ ∃ m ∈ s.station.lines, m.position.val = i ∧ m.state ≠ .acked) ∧
        exec .linkTimeout s = .next (State.raise .linkTimeout 0 missing
          { s with station := { s.station with linkTimer := some (1000 * c.linkTimeout.toNat) } })) ∧
    (s.station.state ≠ .linking ∨ s.station.announceTimer ≠ some 0 → exec .announceTimerExpiry s = .next s) ∧
    (s.station.state ≠ .linking ∨ s.station.linkTimer ≠ some 0 → exec .linkTimeout s = .next s)

/-- The sample timeout at its end in LINKING, RUNNING and STOPPED sets the sample-loss condition, with event and flag, and a looper that is
LIFTING, REGULATING or LOWERING faults; a stall found by the check of R93 sets the encoder-stall condition, with event and flag, abandons
the verification and discards the marks of every entry.
That the commands change nothing where no loss or stall is to be found is the model's choice (log 2). -/
def Obligations.SampleLossAndEncoderFaultAreSet : Prop :=
  ∀ (c : ConfigRecord) (s : State), s.station.config = some c →
    s.station.state = .linking ∨ s.station.state = .running ∨ s.station.state = .stopped →
    (s.stand.sampleTimer = some 0 → s.stand.sampleLoss = false →
      let v := State.setFlag .sampleLoss (State.raise .sampleLoss 0 ((s.stand.lastSeq.getD 0).setWidth 16)
        { s with stand := { s.stand with sampleLoss := true } })
      (s.looper.state = .parked ∨ s.looper.state = .armed ∨ s.looper.state = .holdOff → exec .sampleLoss s = .next v) ∧
      (s.looper.state = .lifting .rise ∨ s.looper.state = .lifting .settle ∨ s.looper.state = .regulating ∨
        s.looper.state = .lowering → exec .sampleLoss s = .next (v.looperFaulted c 5))) ∧
    (s.stand.sampleTimer ≠ some 0 ∨ s.stand.sampleLoss = true → exec .sampleLoss s = .next s) ∧
    (∀ x, s.stand.latest = some x →
      (s.stand.stallTimer = some 0 → 500 ≤ x.speed.toNat → s.stand.sampleLoss = false → s.stand.encoderStall = false →
        exec .encoderFault s = .next (State.setFlag .encoder (State.raise .encoderFault 0 x.speed { s with
          stand := { s.stand with encoderStall := true }
          table := s.table.map Entry.stalled
          detector := { s.detector with verify := .idle } }))) ∧
      (s.stand.stallTimer ≠ some 0 ∨ x.speed.toNat < 500 ∨ s.stand.sampleLoss = true ∨ s.stand.encoderStall = true →
        exec .encoderFault s = .next s))

/-- The oldest entry in an aging phase, ANNOUNCED with origin BUS or CLEARED, whose age has reached the age limit is removed with
PIECE_AGED; its detail is its phase and, for a CLEARED entry, its downstream status. With no such entry nothing changes.
That one command removes one entry is the model's choice (log 2). -/
def Obligations.AgedEntryIsRemoved : Prop :=
  ∀ (c : ConfigRecord) (s : State), s.station.config = some c →
    let aged (e : Entry) : Prop :=
      ((e.phase = .announced ∧ e.origin = .bus) ∨ e.phase = .cleared) ∧ 1000 * c.ageLimit.toNat ≤ e.age
    (∀ k e, s.Oldest aged k e → exec .pieceAged s = .next (State.raise .pieceAged e.tag
      (half e.phase.code (if e.phase = .cleared then e.downstream.code else 0)) { s with table := s.table.eraseIdx k })) ∧
    ((∀ e ∈ s.table, ¬ aged e) → exec .pieceAged s = .next s)

/-- The lift timer in RISE and the lower timer in LOWERING, at their end, make their faults with the angle of the latest sample, the settle
timer takes the looper into REGULATING with HANDOFF_DONE, the report age timer holds the trim as STALE, and the report period timer of a
RUNNING stand with a LOADED detector queues a SPEED_REPORT and restarts. Where no sample was ever taken the angle is one the spec does not
state (log 7). -/
def Obligations.LooperAndTrimTimersExpire : Prop :=
  ∀ (c : ConfigRecord) (s : State), s.station.config = some c →
    let tag : Half := ((s.table.find? fun e => e.phase = .inStand ∨ e.phase = .tailApproaching).map Entry.tag).getD 0
    (∀ x, s.stand.latest = some x →
      (s.looper.state = .lifting .rise → s.looper.liftTimer = some 0 → exec .liftTimeout s = .next
        (((s.raise .liftTimeout s.looper.served x.angle).setFlag .liftTimeout).looperFaulted c 2)) ∧
      (s.looper.state = .lowering → s.looper.lowerTimer = some 0 → exec .lowerTimeout s = .next
        (((s.raise .lowerTimeout s.looper.served x.angle).setFlag .lowerTimeout).looperFaulted c 4)) ∧
      (s.role = .stand → s.trim.reportTimer = some 0 → s.station.state = .running → s.detector.state = .loaded →
        exec .reportPeriodExpiry s = .next (State.queueTelegram (.speedReport tag x.speed)
          { s with trim := { s.trim with reportTimer := some c.reportPeriod.toNat } }))) ∧
    (s.stand.latest = none → s.looper.state = .lifting .rise → s.looper.liftTimer = some 0 →
      ∃ angle, exec .liftTimeout s = .next (State.looperFaulted c 2 (State.setFlag .liftTimeout
        (State.raise .liftTimeout s.looper.served angle { s with freeCount := s.freeCount + 1 })))) ∧
    (s.looper.state = .lifting .settle → s.looper.settleTimer = some 0 → exec .settleTimerExpiry s = .next
      (State.raise .handoffDone s.looper.served 0 { s with looper := { s.looper with
        state := .regulating, liftTimer := none, settleTimer := none, integrator := 0 } })) ∧
    (s.trim.state = .tracking → s.trim.ageTimer = some 0 → exec .reportAgeExpiry s = .next
      (State.raise .trimHeld tag 0x100 { s with trim := { s.trim with state := .held, ageTimer := none } })) ∧
    (s.role = .stand → s.trim.reportTimer = some 0 → s.station.state ≠ .running ∨ s.detector.state ≠ .loaded →
      exec .reportPeriodExpiry s = .next { s with trim := { s.trim with reportTimer := some c.reportPeriod.toNat } })

/-! ### The stand -/

/-- One pulse: the position counts up when the change follows the cycle 0, A, A and B, B, and down when it follows it backwards, wrapping;
a running stall timer restarts; a standing stall ends with ENCODER_RESUMED; then the travel unit evaluates every mark. Both channels at
once are no pulse.
The stall ends before the marks are evaluated, the model's order (log 8); where no pulse came before,
the detail of ENCODER_RESUMED is a free value (log 7). -/
def Obligations.PulseMovesThePositionAndEvaluatesTheMarks : Prop :=
  (∀ (ch : Channel) (s : State),
    let v : State := { s with stand := s.standAfterPulse ch }
    let resumed : State := match s.stand.sincePulse with
      | some ms => v.raise .encoderResumed 0 (BitVec.ofNat 16 (min 65535 ms))
      | none => { v.raise .encoderResumed 0 (Config.freeValue s.freeCount) with freeCount := s.freeCount + 1 }
    let w := if s.stand.encoderStall then resumed else v
    (s.station.config = none → exec (.encoderPulse ch) s = .next w) ∧
    (∀ c, s.station.config = some c → exec (.encoderPulse ch) s = .next (w.evaluateMarks c)) ∧
    (∀ c, s.station.config = some c → (∀ e ∈ s.table, e.headDue v.stand.pulse = [] ∧ e.tailDue v.stand.pulse = []) →
      exec (.encoderPulse ch) s = .next w)) ∧
  (∀ s : State, exec .bothChannelsChange s =
    .next { s with stand := { s.stand with encA := !s.stand.encA, encB := !s.stand.encB } })

/-- A sample record, start byte 0xA5, whose length or check is wrong is discarded and counted; bytes with another start are no record, the
model's reading (log 28). Any other is taken, whatever its undefined bits: gaps counted, a standing sample loss ended
with SAMPLE_RESUMED, then handed to the load detector, the looper sequencer and the trim calculator in this order, and answered by a
command record composed from what they leave, with the looper command of Table 7.1.
On the stand link each byte is a start bit, its bits and a stop bit; that the order of the bits and the levels are those of the bus, and
that no stop bit is tested, is the model's reading (log 29).
Within the load detector the verification comes first, the model's order (log 11). -/
def Obligations.SampleIsTakenByTheBlocksInOrder : Prop :=
  (∀ (bytes : List Byte) (s : State),
    (bytes.length ≠ 12 ∨ bytes.drop 10 ≠ bytes16 (crc16 (bytes.take 10)) →
      exec (.sampleRecord (0xA5 :: bytes)) s =
        .next { s with stand := { s.stand with sampleErrors := satAdd s.stand.sampleErrors 1 } }) ∧
    (bytes.head? ≠ some 0xA5 → exec (.sampleRecord bytes) s = .next s)) ∧
  [LooperState.parked, .armed, .lifting .rise, .lifting .settle, .regulating, .lowering, .holdOff].map LooperState.command =
    [.park, .arm, .lift, .lift, .regulate, .lower, .park] ∧
  (∀ r : CommandRecord,
    let fields := [r.seq, BitVec.ofNat 8 ([LooperCommand.park, .arm, .lift, .regulate, .lower].idxOf r.looper)] ++
      bytes16 r.tension ++ bytes16 (BitVec.ofInt 16 r.trim) ++ [r.station.code]
    r.bytes = [0x96] ++ fields ++ bytes16 (crc16 fields)) ∧
  (let tenBits (b : Byte) (stop : Bool) : List Bool := [false] ++ (List.range 8).map (fun i => b.getLsbD i) ++ [stop]
   (∀ s : State, s.linkBits = s.stand.sent.map fun r => r.bytes.flatMap fun b => tenBits b true) ∧
   (∀ (record : List (Byte × Bool)) (rest : Nat),
     receiveRecord ((record.flatMap fun x => tenBits x.1 x.2) ++ List.replicate rest true) = .sampleRecord (record.map Prod.fst))) ∧
  (∀ (x : Sample) (unused : BitVec 7) (s : State), sampleOfBytes (x.record unused) = some x ∧ x.bytes = x.record 0 ∧
    let v : State := { s with stand := s.standAfterSample x }
    let w := if s.stand.sampleLoss then v.raise .sampleResumed 0 (BitVec.ofNat 16 (min 65535 s.stand.sinceSample)) else v
    let sent (u : State) : State := { u with stand := { u.stand with sent := some (u.answerTo x.seq) } }
    (∀ c, s.station.config = some c → s.station.state = .running ∨ s.station.state = .stopped →
      exec (.sampleRecord (x.record unused)) s = .next (sent ((((w.verifySample c x).detect c x).looperSample c x).stepTrim c))) ∧
    (s.station.state = .configuring ∨ s.station.state = .linking ∨ s.station.state = .faulted →
      s.station.config = none ∨ (s.looper.state = .parked ∧ s.trim.state = .off) → exec (.sampleRecord (x.record unused)) s = .next (sent w)))

/-- The load detector moves as R97 and R98 state: a bite or a tail-out is confirmed once the load has stayed on its side of the
threshold for N_on or N_off pulses, or for four samples while the encoder stalls, and a load that turns back cancels it. At STAND roles
the load is the roll force, elsewhere the detector bit. A sample that meets both the distance and the count is reported as one by
distance, the model's choice (log 24). -/
def Obligations.DetectorConfirmsByDistanceOrByCount : Prop :=
  ∀ (c : ConfigRecord) (x : Sample) (s : State),
    let on : Prop := if s.role = .stand then c.fOn.toNat ≤ x.force.toNat else x.detector = true
    let off : Prop := if s.role = .stand then x.force.toNat < c.fOff.toNat else x.detector = false
    let goes (d : DetectorState) : State := { s with detector := { s.detector with state := d } }
    (s.detector.state = .unloaded →
      (on → s.detect c x = goes (.onPending s.stand.pulse 1)) ∧ (¬ on → s.detect c x = s)) ∧
    (∀ p n, s.detector.state = .onPending p n →
      let far := c.nOn.toNat ≤ distance s.stand.pulse p
      let counted := s.stand.encoderStall = true ∧ 4 ≤ n + 1
      let b : BiteReport := { stamp := p, force := x.force, speed := x.speed, byDistance := decide far }
      (¬ on → s.detect c x = goes .unloaded) ∧
      (on → ¬ far → ¬ counted → s.detect c x = goes (.onPending p (n + 1))) ∧
      (on → far ∨ counted →
        (s.station.state = .running → s.detect c x = (goes .loaded).takeBite c b) ∧
        (s.station.state ≠ .running → s.detect c x = goes .loaded))) ∧
    (s.detector.state = .loaded →
      (off → s.detect c x = goes (.offPending s.stand.pulse 1)) ∧ (¬ off → s.detect c x = s)) ∧
    (∀ p n, s.detector.state = .offPending p n →
      let passed := c.nOff.toNat ≤ distance s.stand.pulse p ∨ (s.stand.encoderStall = true ∧ 4 ≤ n + 1)
      (¬ off → s.detect c x = goes .loaded) ∧
      (off → ¬ passed → s.detect c x = goes (.offPending p (n + 1))) ∧
      (off → passed →
        let u : State := { s with detector := { state := .unloaded, verify := .idle } }
        (s.station.state = .running → s.detect c x = u.takeTail c p) ∧ (s.station.state ≠ .running → s.detect c x = u)))

/-- A bite under verification is judged at the first sample 2 × N_on pulses or more from its stamp: VERIFIED where the first force and
this sample's lie in the band, ends included, else SUSPECT with BITE_SUSPECT naming which lay outside, and the trim ramps out. Until
then nothing changes. -/
def Obligations.VerificationJudgesBothForces : Prop :=
  ∀ (c : ConfigRecord) (x : Sample) (s : State),
    (s.detector.verify = .idle → s.verifySample c x = s) ∧
    (∀ first low high p, s.detector.verify = .awaiting first low high p →
      (distance s.stand.pulse p < 2 * c.nOn.toNat → s.verifySample c x = s) ∧
      (∀ k e, 2 * c.nOn.toNat ≤ distance s.stand.pulse p → s.InStandIs k e →
        let outside (f : Half) : Prop := f.toNat < low ∨ high < f.toNat
        let judged (v : Verification) : State := { s with
          detector := { s.detector with verify := .idle }
          table := s.table.set k { e with verification := v, age := 0 } }
        (¬ outside first → ¬ outside x.force → s.verifySample c x = judged .verified) ∧
        (outside first → ¬ outside x.force → s.verifySample c x = ((judged .suspect).raise .biteSuspect e.tag 1).rampOut) ∧
        (¬ outside first → outside x.force → s.verifySample c x = ((judged .suspect).raise .biteSuspect e.tag 2).rampOut) ∧
        (outside first → outside x.force → s.verifySample c x = ((judged .suspect).raise .biteSuspect e.tag 3).rampOut)))

/-- A confirmed bite belongs to the oldest APPROACHING entry, else to the oldest ANNOUNCED one, with UPSTREAM_NOT_SEEN but at the ENTRY
station, else to a new anonymous entry, with ANONYMOUS_PIECE, for which a full table gives up its oldest CLEARED entry. That entry takes
the bite as R70 states.
The report period timer starts before the marks are reported, as the model reads the spec (log 20). -/
def Obligations.BiteIsTakenByTheForemostPiece : Prop :=
  ∀ (c : ConfigRecord) (b : BiteReport) (s : State),
    (∀ k e, s.Oldest (fun e => e.phase = .approaching) k e → s.takeBite c b = s.bite c k e 0 b) ∧
    ((∀ e ∈ s.table, e.phase ≠ .approaching) →
      (∀ k e, s.Oldest (fun e => e.phase = .announced) k e →
        (s.station.position = 0 → s.takeBite c b = s.bite c k e 1 b) ∧
        (s.station.position ≠ 0 → s.takeBite c b = (s.raise .upstreamNotSeen e.tag 0).bite c k e 1 b)) ∧
      ((∀ e ∈ s.table, e.phase ≠ .announced) →
        (s.table.length < 8 → s.takeBite c b =
          State.bite c s.table.length namelessEntry 2 b (State.raise .anonymousPiece 0 (BitVec.ofNat 16 s.table.length)
            { s with table := s.table ++ [namelessEntry] })) ∧
        (∀ k e, 8 ≤ s.table.length → s.Oldest (fun e => e.phase = .cleared) k e → s.takeBite c b =
          State.bite c (s.table.length - 1) namelessEntry 2 b
            (State.raise .anonymousPiece 0 (BitVec.ofNat 16 (s.table.length - 1))
              { s.raise .pieceEvicted e.tag (e.downstream.code.setWidth 16) with
                table := s.table.eraseIdx k ++ [namelessEntry] }))))

/-- A confirmed tail-out makes the in-stand entry CLEARED without tail marks, or retires it where the role has no bite window; TAIL_OUT is
queued; TAIL_EARLY is raised where the entry has tail marks and the off stamp lies below tail low, else OWN_TAIL_OUT; an ARMED looper
parks and one that lifts or regulates lowers; the trim goes OFF and its report timer stops. -/
def Obligations.TailOutLetsThePieceGo : Prop :=
  ∀ (c : ConfigRecord) (k : Nat) (e : Entry) (off : Word) (s : State), s.InStandIs k e →
    let kept : Prop := s.station.position = 0 ∨
      (s.station.position.toNat ≤ 8 ∧ (s.station.position.toNat < c.trainSize.toNat ∨ c.exitPresent = 1))
    let cleared : State := { s with table := s.table.set k { e with
      phase := .cleared, origin := e.origin.moved, tailMarks := none, age := 0 } }
    let retired := State.raise .pieceRetired e.tag (e.downstream.code.setWidth 16) { s with table := s.table.eraseIdx k }
    let ended (event : State → State) (v : State) : State :=
      let u := event (v.queueTelegram (.tailOut e.tag (e.origin == .anonymous)))
      let u := if u.looper.state = .armed then { u with looper := { u.looper with state := .parked } } else u.lowered c
      { u with trim := { state := .off, target := 0, current := 0, ageTimer := none, saturated := false, reportTimer := none } }
    (∀ m p, e.tailMarks = some m → e.tailStamp = some p → distance off p.position < m.tailLow →
      let event (v : State) : State := v.raise .tailEarly e.tag (BitVec.ofNat 16 (min 65535 (distance off p.position)))
      (kept → s.takeTail c off = ended event cleared) ∧ (¬ kept → s.takeTail c off = ended event retired)) ∧
    (e.tailMarks = none ∨ (∃ m p, e.tailMarks = some m ∧ e.tailStamp = some p ∧ m.tailLow ≤ distance off p.position) →
      let event (v : State) : State := v.raise .ownTailOut e.tag 0
      (kept → s.takeTail c off = ended event cleared) ∧ (¬ kept → s.takeTail c off = ended event retired))

/-! ### Marks -/

/-- The distance from a stamp to a position is their difference modulo 2^32 where that is below 2^31, and 0 where it is not: a position
behind its stamp is at distance 0, and one that has wrapped since is at its true distance. -/
def Obligations.DistanceIsTheSignedDifference : Prop :=
  ∀ position stamp : Word,
    ((position - stamp).toNat < 2 ^ 31 → distance position stamp = (position - stamp).toNat) ∧
    (2 ^ 31 ≤ (position - stamp).toNat → distance position stamp = 0) ∧
    (∀ d : Nat, d < 2 ^ 31 → distance (stamp + BitVec.ofNat 32 d) stamp = d)

/-- The expected head travel P is the least number of pulses that carries L_dn × 10^9 at UPP × (1000 + S_own), the tail travel the least
that carries L_up × 10^9 × H_up at UPP × (1000 + S_own) × H_own; W is the least whole number of at least P × T / 1000, and never below 4;
the marks are P − W, P + W, and window low less the arm lead, or P less the tail lead, where that is not below 0. An entry's S_own and
H_own are the own pass's, S_own 0 at the ENTRY station; H_up is the upstream pass's exit thickness, the bar thickness at stand 1. Without a
pass window there are no marks; tail marks are computed at stands alone, and from no tail stamp that is not there or void. The expected
force is the own pass's, absent where its field is 0. -/
def Obligations.MarksAreTheRoundedTravel : Prop :=
  (∀ lDn upp slip p : Nat, 0 < upp → (expectedHead lDn upp slip ≤ p ↔ lDn * 10 ^ 9 ≤ p * (upp * (1000 + slip)))) ∧
  (∀ lUp hUp hOwn upp slip p : Nat, 0 < upp → 0 < hOwn →
    (expectedTail lUp hUp hOwn upp slip ≤ p ↔ lUp * 10 ^ 9 * hUp ≤ p * (upp * (1000 + slip) * hOwn))) ∧
  (∀ p t w : Nat, halfWidth p t ≤ w ↔ 4 ≤ w ∧ p * t ≤ 1000 * w) ∧
  (∀ (c : ConfigRecord) (slip : Nat),
    let p := expectedHead c.lDn.toNat c.upp.toNat slip
    let w := halfWidth p c.windowTolerance.toNat
    headMarksOf c slip = { armPoint := p - w - c.armLead.toNat, windowLow := p - w, windowHigh := p + w,
                           armReached := false, lowReached := false, expiryReached := false } ∧
    (10000 ≤ c.upp.toNat → c.upp.toNat ≤ 8000000 → 1000 ≤ c.lDn.toNat → c.lDn.toNat ≤ 12000 → 5 ≤ c.windowTolerance.toNat →
      c.windowTolerance.toNat ≤ 200 → slip ≤ 150 →
      109 ≤ p ∧ p ≤ 1200000 ∧ 4 ≤ w ∧ w ≤ 240000 ∧ 87 ≤ p - w ∧ w ≤ p)) ∧
  (∀ (c : ConfigRecord) (hUp hOwn slip : Nat),
    let p := expectedTail c.lUp.toNat hUp hOwn c.upp.toNat slip
    let w := halfWidth p c.windowTolerance.toNat
    tailMarksOf c hUp hOwn slip = { lowering := p - c.tailLead.toNat, tailLow := p - w, tailHigh := p + w,
                                    loweringReached := false, overdueReached := false }) ∧
  (∀ (c : ConfigRecord) (position : BitVec 4) (e : Entry),
    (e.window = none → e.headMarksAt c position = none ∧ e.tailMarksAt c position = none ∧ e.expectedForce = none) ∧
    (position = 0 ∨ 9 ≤ position.toNat ∨ e.tailStamp = none ∨ (∃ t, e.tailStamp = some t ∧ t.void = true) →
      e.tailMarksAt c position = none) ∧
    (∀ w, e.window = some w →
      (position = 0 → e.headMarksAt c position = some (headMarksOf c 0)) ∧
      (w.own = none → e.expectedForce = none ∧ (position ≠ 0 → e.headMarksAt c position = none)) ∧
      (∀ own, w.own = some own →
        (position ≠ 0 → e.headMarksAt c position = some (headMarksOf c own.forwardSlip.toNat)) ∧
        (own.expectedForce = 0 → e.expectedForce = none) ∧
        (own.expectedForce ≠ 0 → e.expectedForce = some own.expectedForce.toNat) ∧
        (∀ t, e.tailStamp = some t → t.void = false → position.toNat ≤ 8 →
          (∀ bar, position = 1 → e.barThickness = some bar →
            e.tailMarksAt c position = some (tailMarksOf c bar.toNat own.exitThickness.toNat own.forwardSlip.toNat)) ∧
          (∀ up, 2 ≤ position.toNat → w.up = some up →
            e.tailMarksAt c position =
              some (tailMarksOf c up.exitThickness.toNat own.exitThickness.toNat own.forwardSlip.toNat))))))

/-- The marks reported for an entry are its unreached ones whose value the distance equals or exceeds, each once and in the order of Table
6.3, head marks before tail marks, the expiry point being window high + 1 and the overdue point tail high + 1, the head marks counted from
the bite stamp and the tail marks from the tail stamp; they are one set, reported one after the other in ascending order of value, equal
values in the order of Table 6.3. The entries of the table are taken one after the other from the oldest, the model's order (log 8). -/
def Obligations.ReachedMarksAreReportedInOrder : Prop :=
  (∀ ms : List (Nat × Mark), ∃ l : List (Nat × Mark), l.Perm ms ∧ l.Pairwise (fun a b => a.1 ≤ b.1) ∧
    (∀ v, l.filter (fun m => m.1 = v) = ms.filter fun m => m.1 = v) ∧ inReportOrder ms = l.map Prod.snd) ∧
  (∀ (d : Nat) (h : HeadMarks), h.due d = reachedOf d
    [(h.armPoint, .armPoint, h.armReached), (h.windowLow, .windowLow, h.lowReached), (h.windowHigh + 1, .expiry, h.expiryReached)]) ∧
  (∀ (pulse : Word) (e : Entry),
    (∀ h p, e.headMarks = some h → e.biteStamp = some p → e.headDue pulse = h.due (distance pulse p)) ∧
    (e.headMarks = none ∨ e.biteStamp = none → e.headDue pulse = []) ∧
    (∀ t p, e.tailMarks = some t → e.tailStamp = some p → e.tailDue pulse = t.due (distance pulse p.position)) ∧
    (e.tailMarks = none ∨ e.tailStamp = none → e.tailDue pulse = [])) ∧
  (∀ (c : ConfigRecord) (s : State), s.table.length ≤ 8 →
    let evaluated (k : Nat) (u : State) : State :=
      match u.table[k]? with
      | some e => u.reportMarks c k (inReportOrder (e.headDue u.stand.pulse ++ e.tailDue u.stand.pulse))
      | none => u
    s.evaluateMarks c = (List.range s.table.length).foldl (fun u k => evaluated k u) s) ∧
  (∀ (c : ConfigRecord) (k : Nat) (m : Mark) (ms : List Mark) (s : State),
    s.reportMarks c k [] = s ∧ s.reportMarks c k (m :: ms) = (s.reportMark c k m).reportMarks c k ms) ∧
  (∀ (d : Nat) (t : TailMarks), t.due d = reachedOf d
    [(t.lowering, .lowering, t.loweringReached), (t.tailHigh + 1, .overdue, t.overdueReached)])

/-- What the report of a reached mark does (Table 6.3), the mark's indication becoming reached: window low opens a PENDING window; the
expiry makes an OPEN entry LOST, with the fault of R114, or UNCONFIRMED with HEAD_UNCONFIRMED where it carries downstream-gap, which parks
an ARMED looper of the in-stand entry; the arm point arms a PARKED looper or is noted by a LOWERING one; the lowering point lowers the
looper and ramps the trim out; the overdue point raises TAIL_OVERDUE. -/
def Obligations.ReportOfAMarkActsAsTabled : Prop :=
  ∀ (c : ConfigRecord) (k : Nat) (e : Entry) (s : State), s.table[k]? = some e →
    let v (m : Mark) : State := { s with table := s.table.set k (e.reach m) }
    let wrote (m : Mark) (f : Entry → Entry) : State := { s with table := s.table.set k { f (e.reach m) with age := 0 } }
    let standing := e.phase = .inStand ∨ e.phase = .tailApproaching
    ((e.downstream = .pending → s.reportMark c k .windowLow = wrote .windowLow fun e => { e with downstream := .inWindow }) ∧
      (e.downstream ≠ .pending → s.reportMark c k .windowLow = v .windowLow)) ∧
    ((e.downstream ≠ .inWindow → s.reportMark c k .expiry = v .expiry) ∧
      (e.downstream = .inWindow → e.flags.downstreamGap = false → s.reportMark c k .expiry =
        (wrote .expiry fun e => { e with downstream := .lost }).lostHead c e.tag (if standing then 0 else 1)) ∧
      (e.downstream = .inWindow → e.flags.downstreamGap = true →
        let u := (wrote .expiry fun e => { e with downstream := .unconfirmed }).raise .headUnconfirmed e.tag 0
        s.reportMark c k .expiry =
          if standing ∧ s.looper.state = .armed then { u with looper := { s.looper with state := .parked } } else u)) ∧
    (s.reportMark c k .armPoint =
      if ¬ standing ∨ ¬ s.Trims c then v .armPoint
      else if s.looper.state = .parked then
        { v .armPoint with looper := { s.looper with state := .armed, served := e.tag } }
      else if s.looper.state = .lowering then { v .armPoint with looper := { s.looper with armPending := true } }
      else v .armPoint) ∧
    (s.reportMark c k .lowering = if standing then ((v .lowering).lowered c).rampOut else v .lowering) ∧
    (s.reportMark c k .overdue =
      if standing then (v .overdue).raise .tailOverdue e.tag (s.detector.state.code.setWidth 16) else v .overdue)

/-! ### The looper and the trim at a sample -/

/-- What a sample does to the looper of a station that has one: in RISE an angle at or above the working angle ends the rise; in
REGULATING a deviation beyond the band adds 16 to the tension integrator, up to the limit, where the TENSION fault is made, and any other
takes 1 from it, down to 0; in LOWERING an angle at or below the park angle completes the lowering into LIFTING, ARMED or PARKED (R135).
-/
def Obligations.SampleMovesTheLooper : Prop :=
  ∀ (c : ConfigRecord) (x : Sample) (s : State), s.Trims c →
    (s.looper.state = .lifting .rise →
      (x.angle.toNat < c.workingAngle.toNat → s.looperSample c x = s) ∧
      (c.workingAngle.toNat ≤ x.angle.toNat → c.settleTime ≠ 0 → s.looperSample c x = { s with looper := { s.looper with
        state := .lifting .settle, liftTimer := none, settleTimer := some c.settleTime.toNat } }) ∧
      (c.workingAngle.toNat ≤ x.angle.toNat → c.settleTime = 0 → s.looperSample c x =
        State.raise .handoffDone s.looper.served 0 { s with looper := { s.looper with
          state := .regulating, liftTimer := none, settleTimer := none, integrator := 0 } })) ∧
    (∀ e own, s.looper.state = .regulating → s.inStand? = some e → e.ownPass = some own → own.tensionRef ≠ 0 →
      let ref := own.tensionRef.toNat
      let apart := max x.tension.toNat ref - min x.tension.toNat ref
      let band := ref * c.tensionBand.toNat / 1000
      let integrator (n : Nat) : State := { s with looper := { s.looper with integrator := n } }
      (apart ≤ band → s.looperSample c x = integrator (s.looper.integrator - 1)) ∧
      (band < apart → s.looper.integrator + 16 < c.tensionLimit.toNat →
        s.looperSample c x = integrator (s.looper.integrator + 16)) ∧
      (band < apart → c.tensionLimit.toNat ≤ s.looper.integrator + 16 → s.looperSample c x =
        ((s.raise .tensionFault s.looper.served x.tension).setFlag .tension).looperFaulted c 3)) ∧
    (s.looper.state = .lowering →
      (c.parkAngle.toNat < x.angle.toNat → s.looperSample c x = s) ∧
      (x.angle.toNat ≤ c.parkAngle.toNat →
        let done : Looper := { s.looper with state := .parked, lowerTimer := none, armPending := false, liftPending := false }
        (∀ e, s.inStand? = some e → s.looper.liftPending = true → e.downstream = .confirmed → s.looperSample c x =
          State.raise .lateLift e.tag 0 { s with looper :=
            { done with state := .lifting .rise, liftTimer := some c.liftTime.toNat, served := e.tag } }) ∧
        (∀ e, s.inStand? = some e → s.looper.armPending = true → e.awaits → s.looperSample c x =
          { s with looper := { done with state := .armed, served := e.tag } }) ∧
        ((∀ e, s.inStand? = some e → ¬ (s.looper.liftPending = true ∧ e.downstream = .confirmed) ∧
          ¬ (s.looper.armPending = true ∧ e.awaits)) → s.looperSample c x = { s with looper := done }))) ∧
    (s.looper.state = .parked ∨ s.looper.state = .armed ∨ s.looper.state = .lifting .settle ∨ s.looper.state = .holdOff →
      s.looperSample c x = s)

/-- A sample in TRACKING, HELD or RAMP_OUT moves the current trim to the target where they differ by no more than the trim step, and
otherwise by the trim step toward it; in RAMP_OUT the sample that brings it to 0 takes the trim to OFF; in OFF nothing moves. Where the
current trim is 0 already the first sample taken in RAMP_OUT ends it, be it the sample that brought it about: the model's choice (log
25). -/
def Obligations.SampleStepsTheTrim : Prop :=
  ∀ (c : ConfigRecord) (s : State),
    let step : Int := c.trimStep.toNat
    let moved (v : Int) : State := { s with trim := { s.trim with current := v } }
    (s.trim.state = .off → s.stepTrim c = s) ∧
    (s.trim.state = .tracking ∨ s.trim.state = .held ∨ (s.trim.state = .rampOut ∧ s.trim.target = 0) →
      (s.trim.target - s.trim.current ≤ step → s.trim.current - s.trim.target ≤ step →
        s.stepTrim c = if s.trim.state = .rampOut then
            { s with trim := { s.trim with state := .off, current := 0 } } else moved s.trim.target) ∧
      (0 < step → step < s.trim.target - s.trim.current → s.stepTrim c = moved (s.trim.current + step)) ∧
      (0 < step → step < s.trim.current - s.trim.target → s.stepTrim c = moved (s.trim.current - step)))

/-! ### What every step keeps -/

/-- In every state after reset the invariants hold. -/
def Obligations.ResetStateIsSafe : Prop :=
  State.reset.BusSafe ∧ State.reset.EventsSafe ∧ State.reset.HandoffSafe ∧
  ∀ (strap : BitVec 4) (a b : Bool) (s : State),
    (s.resetTo strap a b).BusSafe ∧ (s.resetTo strap a b).EventsSafe ∧ (s.resetTo strap a b).HandoffSafe

/-- Every step keeps the train bus unit as Chapter 3 says it is, whatever the command: queues in their rooms and empty while SILENT or
FAULTED, each telegram in the queue of its class with at most three failed attempts, the attempt on the line at the head of its queue, the
counts in their ranges; and the event queue at 32 events at most. -/
def Obligations.EveryStepKeepsTheBusUnitSafe : Prop :=
  ∀ s t : State, step s = .next t → s.BusSafe → s.EventsSafe → t.BusSafe ∧ t.EventsSafe

/-- Every step keeps the blocks of a hand-off in agreement, whatever the command: the table's order and room, one in-stand entry exactly
while RUNNING with a load held, the looper and the trim in motion only for a CONFIRMED in-stand entry of a stand that drives them, timers
and items as their states have them, the integrator and the trim within their limits. -/
def Obligations.EveryStepKeepsTheHandOffSafe : Prop :=
  ∀ s t : State, step s = .next t → s.HandoffSafe → t.HandoffSafe
end

