-- ==== Sys2Proof/Laws/Ops.lean ====
section
/-! SUPPORT. Laws of the shared operations: for each, what it can do said once, so that a proof about a command cites it and does not
unfold it. -/

namespace Sys2Proof.Laws

open Sys2Proof.Machine

/-! ### Station state, role and position -/

/-- The states in which telegrams are dispatched and the stand interface's timers run. -/
theorem live_iff (s : State) :
    s.live = true ↔ s.station.state = .linking ∨ s.station.state = .running ∨ s.station.state = .stopped := by
  unfold State.live; cases s.station.state <;> simp [StationState.live]

theorem not_live_iff (s : State) : s.live = false ↔ s.station.state = .configuring ∨ s.station.state = .faulted := by
  unfold State.live; cases s.station.state <;> simp [StationState.live]

theorem runningOrStopped_iff (s : State) :
    s.runningOrStopped = true ↔ s.station.state = .running ∨ s.station.state = .stopped := by
  simp [State.runningOrStopped]

theorem roleOf_entry (p : BitVec 4) : roleOf p = .entry ↔ p = 0 := by
  unfold roleOf; by_cases h : p = 0
  · simp [h]
  · rw [if_neg h]; split <;> (try split) <;> simp_all

theorem roleOf_stand (p : BitVec 4) : roleOf p = .stand ↔ 1 ≤ p.toNat ∧ p.toNat ≤ 8 := by
  revert p; decide

theorem roleOf_exit (p : BitVec 4) : roleOf p = .exit ↔ p.toNat = 9 := by
  revert p; decide

theorem roleOf_invalid (p : BitVec 4) : roleOf p = .invalid ↔ 10 ≤ p.toNat := by
  revert p; decide

/-- A station drives a looper and trims at a STAND role below stand N in mode FULL (R123). -/
theorem drivesLooper_iff (c : ConfigRecord) (p : BitVec 4) :
    drivesLooper c p = true ↔ 1 ≤ p.toNat ∧ p.toNat ≤ 8 ∧ p.toNat < c.trainSize.toNat ∧ c.mode = 0 := by
  unfold drivesLooper ConfigRecord.n ConfigRecord.fullMode
  simp only [Bool.and_eq_true, beq_iff_eq, roleOf_stand, decide_eq_true_eq]
  tauto

/-! ### Transmit queues -/

/-- Dropping a telegram touches the TX_DROP counter and the host port alone. -/
theorem dropTelegram_eq (t : Telegram) (reason : Byte) (s : State) : ∃ k h, s.dropTelegram t reason =
    { s with bus := { s.bus with counters := k }, host := h } := ⟨_, _, rfl⟩

/-- Queuing a telegram touches the bus unit and, where it drops the telegram, the host port: no other block. -/
theorem queueTelegram_eq (t : Telegram) (s : State) : ∃ b h, s.queueTelegram t = { s with bus := b, host := h } := by
  unfold State.queueTelegram
  split
  · exact ⟨s.bus, s.host, rfl⟩
  · cases t.cls <;> dsimp only <;> (try split) <;> exact ⟨_, _, rfl⟩

@[simp] theorem queueTelegram_station (t : Telegram) (s : State) : (s.queueTelegram t).station = s.station := by
  obtain ⟨b, h, e⟩ := queueTelegram_eq t s; rw [e]
@[simp] theorem queueTelegram_table (t : Telegram) (s : State) : (s.queueTelegram t).table = s.table := by
  obtain ⟨b, h, e⟩ := queueTelegram_eq t s; rw [e]
@[simp] theorem queueTelegram_stand (t : Telegram) (s : State) : (s.queueTelegram t).stand = s.stand := by
  obtain ⟨b, h, e⟩ := queueTelegram_eq t s; rw [e]
@[simp] theorem queueTelegram_detector (t : Telegram) (s : State) : (s.queueTelegram t).detector = s.detector := by
  obtain ⟨b, h, e⟩ := queueTelegram_eq t s; rw [e]
@[simp] theorem queueTelegram_looper (t : Telegram) (s : State) : (s.queueTelegram t).looper = s.looper := by
  obtain ⟨b, h, e⟩ := queueTelegram_eq t s; rw [e]
@[simp] theorem queueTelegram_trim (t : Telegram) (s : State) : (s.queueTelegram t).trim = s.trim := by
  obtain ⟨b, h, e⟩ := queueTelegram_eq t s; rw [e]
@[simp] theorem queueTelegram_pending (t : Telegram) (s : State) : (s.queueTelegram t).pending = s.pending := by
  obtain ⟨b, h, e⟩ := queueTelegram_eq t s; rw [e]
@[simp] theorem queueTelegram_freeCount (t : Telegram) (s : State) : (s.queueTelegram t).freeCount = s.freeCount := by
  obtain ⟨b, h, e⟩ := queueTelegram_eq t s; rw [e]

/-- The queue of a class reads back what was put there, and no other queue changes. -/
theorem queue_withQueue (b : Bus) (q : List Queued) (c d : TxClass) :
    (b.withQueue q c).queue d = if d = c then q else b.queue d := by
  cases c <;> cases d <;> rfl

/-- Entering SILENT, STOPPED or FAULTED never adds a telegram. -/
theorem flushForStop_stop (b : Bus) : b.flushForStop.stopQueue = b.stopQueue ∧ b.flushForStop.linkQueue = b.linkQueue := ⟨rfl, rfl⟩

/-! ### The event queue -/

/-- An event leaves the queue within its room. -/
theorem raise_within_room (e : Event) (h : HostPort) (hr : h.events.length ≤ eventRoom) :
    (h.raise e).events.length ≤ eventRoom := by
  unfold HostPort.raise
  split
  · simp only [List.length_append, List.length_singleton]; omega
  · cases hd : displacedBy e.kind.cls h.events with
    | none => exact hr
    | some i =>
      show (h.events.eraseIdx i ++ [e]).length ≤ eventRoom
      have hi : i < h.events.length := by
        have key : ∀ (c : Nat) (es : List Event) (j : Nat), youngestOf c es = some j → j < es.length := by
          intro c es
          induction es with
          | nil => intro j hj; cases hj
          | cons x xs ih =>
            intro j hj
            unfold youngestOf at hj
            cases hx : youngestOf c xs with
            | some k =>
              rw [hx] at hj
              have := ih k hx
              simp only [Option.some.injEq] at hj
              simp only [List.length_cons]; omega
            | none =>
              rw [hx] at hj
              dsimp only at hj
              split at hj
              · simp only [Option.some.injEq] at hj; simp only [List.length_cons]; omega
              · cases hj
        unfold displacedBy at hd
        split at hd
        · exact key _ _ _ hd
        · cases hd
      simp only [List.length_append, List.length_singleton, List.length_eraseIdx_of_lt hi]; omega

/-! ### The tracking table -/

theorem isInStand_iff (e : Entry) : e.isInStand = true ↔ e.phase = .inStand ∨ e.phase = .tailApproaching := by
  simp [Entry.isInStand]

theorem awaiting_iff (d : Downstream) :
    d.awaiting = true ↔ d = .pending ∨ d = .inWindow ∨ d = .untimed ∨ d = .unconfirmed := by
  cases d <;> simp [Downstream.awaiting]

/-- The oldest entry that satisfies p: the first one in order of creation. -/
theorem oldest_eq_some (s : State) (p : Entry → Bool) (k : Nat) : s.oldest p = some k ↔
    ∃ e, s.table[k]? = some e ∧ p e = true ∧ ∀ j < k, ∀ f ∈ s.table[j]?, p f = false := by
  unfold State.oldest
  rw [List.findIdx?_eq_some_iff_getElem]
  constructor
  · rintro ⟨hk, h1, h2⟩
    refine ⟨s.table[k], by simp, h1, fun j hj f hf => ?_⟩
    have h3 := h2 j hj
    rw [List.getElem?_eq_getElem (by omega)] at hf
    simp only [Option.mem_def, Option.some.injEq] at hf
    subst hf; simpa using h3
  · rintro ⟨e, h1, h2, h3⟩
    obtain ⟨hk, h1⟩ := List.getElem?_eq_some_iff.1 h1
    refine ⟨hk, by rw [h1]; exact h2, fun j hj => ?_⟩
    have := h3 j hj s.table[j] (by simp [List.getElem?_eq_getElem (show j < s.table.length by omega)])
    simp [this]

theorem oldest_eq_none (s : State) (p : Entry → Bool) : s.oldest p = none ↔ ∀ e ∈ s.table, p e = false := by
  unfold State.oldest
  rw [List.findIdx?_eq_none_iff]

/-- Tag 0 names no entry; another tag names the first entry that carries it. -/
theorem slotOfTag_eq_some (s : State) (t : Half) (k : Nat) : s.slotOfTag t = some k ↔
    t ≠ 0 ∧ ∃ e, s.table[k]? = some e ∧ e.tag = t ∧ ∀ j < k, ∀ f ∈ s.table[j]?, f.tag ≠ t := by
  unfold State.slotOfTag
  by_cases h : t = 0
  · simp [h]
  · have h' : t ≠ 0#16 := h
    rw [if_neg h, oldest_eq_some]; simp [h']

theorem slotOfTag_eq_none (s : State) (t : Half) : s.slotOfTag t = none ↔ t = 0 ∨ ∀ e ∈ s.table, e.tag ≠ t := by
  unfold State.slotOfTag
  by_cases h : t = 0
  · simp [h]
  · have h' : t ≠ 0#16 := h
    rw [if_neg h, oldest_eq_none]; simp [h']

/-- Writing the entry at a slot replaces that entry alone and starts its age again (R58). -/
theorem writeEntry_eq (s : State) (k : Nat) (e : Entry) (f : Entry → Entry) (h : s.table[k]? = some e) :
    s.writeEntry k f = { s with table := s.table.set k { f e with age := 0 } } := by
  obtain ⟨hk, h⟩ := List.getElem?_eq_some_iff.1 h
  unfold State.writeEntry
  congr 1
  apply List.ext_getElem?
  intro i
  rw [List.getElem?_modify, List.getElem?_set]
  by_cases hi : k = i
  · subst hi; simp [hk, h]
  · simp [hi]

/-- Refreshing a tag touches ages alone. -/
theorem refreshTag_eq (s : State) (t : Half) : ∃ table, s.refreshTag t = { s with table := table } ∧
    table.map (fun e => { e with age := 0 }) = s.table.map fun e => { e with age := 0 } := by
  unfold State.refreshTag
  cases hs : s.slotOfTag t with
  | none => exact ⟨s.table, rfl, rfl⟩
  | some k =>
    obtain ⟨-, e, h1, -, -⟩ := (slotOfTag_eq_some s t k).1 hs
    refine ⟨_, writeEntry_eq s k e id h1, ?_⟩
    obtain ⟨hk, h1⟩ := List.getElem?_eq_some_iff.1 h1
    apply List.ext_getElem?
    intro i
    simp only [List.getElem?_map, List.getElem?_set, id]
    by_cases hi : k = i
    · subst hi; simp [hk, h1]
    · simp [hi]

/-- The entries passed over leave, and only ANNOUNCED ones do. -/
theorem passOver_table (s : State) (k : Nat) :
    (s.passOver k).table = ((s.table.take k).filter fun e => e.phase ≠ .announced) ++ s.table.drop k := by
  unfold State.passOver
  have key : ∀ (l : List Entry) (u : State),
      (l.foldl (fun s e => s.raise .pieceWithdrawn e.tag WithdrawReason.passed.code) u).table = u.table := by
    intro l
    induction l with
    | nil => intro u; rfl
    | cons a l ih => intro u; rw [List.foldl_cons, ih]; rfl
  exact key _ _

/-- Making room leaves the table as it is, or takes one CLEARED entry out of a full one. -/
theorem makeRoom_eq (s u : State) (h : s.makeRoom = some u) : (u = s ∧ s.table.length < tableRoom) ∨
    ∃ k e, s.table[k]? = some e ∧ e.phase = .cleared ∧
      u = (s.removeEntry k).raise .pieceEvicted e.tag (e.downstream.code.setWidth 16) := by
  unfold State.makeRoom at h
  split at h
  · exact .inl ⟨(Option.some.inj h).symm, ‹_›⟩
  · split at h
    · cases h
    · rename_i slot hs
      obtain ⟨e, h1, h2, -⟩ := (oldest_eq_some s _ slot).1 hs
      rw [h1] at h
      exact .inr ⟨slot, e, h1, by simpa using h2, (Option.some.inj h).symm⟩

/-- A new entry joins the youngest end of the table, its tag not yet there, or it is refused. -/
theorem createEntry_eq (e : Entry) (s u : State) (h : s.createEntry e = .ok u) : s.slotOfTag e.tag = none ∧
    ∃ v, s.makeRoom = some v ∧ u = { v with table := v.table ++ [e] } := by
  unfold State.createEntry at h
  split at h
  · cases h
  · rename_i hn
    split at h
    · cases h
    · rename_i v hv
      refine ⟨?_, v, hv, ?_⟩
      · cases hx : s.slotOfTag e.tag with
        | none => rfl
        | some k => simp [hx] at hn
      · injection h with h; exact h.symm

/-- A flag asked for is set in the in-stand entry alone. -/
theorem requestFlag_eq (f : EntryFlags → EntryFlags) (s : State) : ∃ table, s.requestFlag f = { s with table := table } := by
  unfold State.requestFlag
  cases s.inStandSlot with
  | none => exact ⟨s.table, rfl⟩
  | some k => exact ⟨_, rfl⟩

/-! ### Reception -/

/-- The tests of R49, one outcome each. -/
theorem seqOutcome_repeated (expect : Option Byte) (seq : Byte) (linking : Bool) :
    seqOutcome expect seq linking = .repeated ↔ expect = some seq := by
  unfold seqOutcome
  cases expect with
  | none => simp
  | some last =>
    dsimp only
    by_cases h : seq = last
    · simp [h]
    · rw [if_neg h]; split <;> (try split) <;> simp <;> exact fun e => h e.symm

theorem seqOutcome_gap (last seq : Byte) (h1 : seq ≠ last) (h2 : seq ≠ last + 1) :
    seqOutcome (some last) seq false = .gap (seq - (last + 1)).toNat := by
  have h2' : seq ≠ last + 1#8 := h2
  unfold seqOutcome; simp [h1, h2']

/-- The end of a frame: it is taken, the line idle after it unless the station's own attempt is on it, or it is lost (R41). -/
theorem atFrameEnd_eq (take : State → State) (s : State) : s.atFrameEnd take =
    if s.bus.line = .lost then s.withLine (.idle 0) else take { s with bus := s.bus.frameEnds } := rfl

/-- A good telegram taken: the station's own position, a repeat, a gap, or an accepted telegram. -/
theorem takeTelegram_eq (src : Fin 10) (seq : Byte) (linking : Bool) (take : State → State) (s : State) :
    s.takeTelegram src seq linking take =
      if s.countGood.ownPosition src then
        if s.live then s.countGood.countRxGood.enterFaulted .duplicatePosition src else s.countGood.countRxGood
      else
        match seqOutcome s.countGood.bus.expect[src] seq linking with
        | .repeated => { s.countGood with bus := { s.countGood.bus with counters := { s.countGood.bus.counters with
            rxRepeat := satAdd s.countGood.bus.counters.rxRepeat 1 } } }
        | .accepted => ((s.countGood.countRxGood).setExpect src seq).dispatch take
        | .gap missed => (((s.countGood.countRxGood).setExpect src seq).reportGap src missed).dispatch take := by
  have hl : s.countGood.countRxGood.live = s.live := by
    unfold State.countGood; dsimp only; split <;> rfl
  rw [← hl]
  exact rfl

/-! ### The idle line (R38) -/

/-- What is due at a slot does not depend on the slot count before it. -/
theorem dueAtSlot_withLine (n : Fin 44) (l : LineState) (s : State) : (s.withLine l).dueAtSlot n = s.dueAtSlot n := rfl

/-- One slot passes. -/
theorem slotsPass_succ (slots : Nat) (n : Fin 44) (s : State) :
    (s.withLine (.idle n)).slotsPass (slots + 1) = ((s.withLine (.idle n)).slotComes (n + 1)).slotsPass slots := rfl

/-- With an attempt on the line no slot passes. -/
theorem slotsPass_begun (slots : Nat) (cls : TxClass) (q : Queued) (s : State) :
    (s.beginAttempt cls q).slotsPass slots = s.beginAttempt cls q := by
  cases slots with
  | zero => rfl
  | succ k => rfl

/-- The line idle at count n, some slots pass: the count advances by them, no slot bringing an attempt, or it comes to the first slot
that is the deferral of the telegram to be sent, and its attempt begins. -/
theorem slotsPass_eq (slots : Nat) (n : Fin 44) (s : State) :
    ((∀ k, 1 ≤ k → k ≤ slots → s.dueAtSlot (n + Fin.ofNat 44 k) = none) ∧
      (s.withLine (.idle n)).slotsPass slots = s.withLine (.idle (n + Fin.ofNat 44 slots))) ∨
    ∃ k cls q, 1 ≤ k ∧ k ≤ slots ∧ s.dueAtSlot (n + Fin.ofNat 44 k) = some (cls, q) ∧
      (∀ j, 1 ≤ j → j < k → s.dueAtSlot (n + Fin.ofNat 44 j) = none) ∧
      (s.withLine (.idle n)).slotsPass slots = s.beginAttempt cls q := by
  induction slots generalizing n with
  | zero => exact .inl ⟨fun k h1 h2 => by omega, by rw [show n + Fin.ofNat 44 0 = n from by simp]; rfl⟩
  | succ slots ih =>
    have step (k : Nat) : n + 1 + Fin.ofNat 44 k = n + Fin.ofNat 44 (k + 1) := by
      ext; simp only [Fin.val_add, Fin.ofNat, Fin.val_one]; omega
    have rest (p : Nat → Prop) (h1 : p 1) (h : ∀ k, 1 ≤ k → k ≤ slots → p (k + 1)) : ∀ k, 1 ≤ k → k ≤ slots + 1 → p k := by
      intro k hk hk'
      obtain rfl | hk2 := Nat.eq_or_lt_of_le hk
      · exact h1
      · have := h (k - 1) (by omega) (by omega)
        rwa [Nat.sub_add_cancel hk] at this
    rw [slotsPass_succ, State.slotComes, dueAtSlot_withLine]
    cases hd : s.dueAtSlot (n + 1) with
    | some x =>
      refine .inr ⟨1, x.1, x.2, le_rfl, by omega, hd, fun j h1 h2 => by omega, ?_⟩
      dsimp only
      rw [State.withLine_beginAttempt, slotsPass_begun]
    | none =>
      dsimp only
      rw [State.withLine_withLine]
      rcases ih (n + 1) with ⟨h1, h2⟩ | ⟨k, cls, q, h1, h2, h3, h4, h5⟩
      · refine .inl ⟨rest _ hd fun k hk hk' => ?_, by rw [h2, step]⟩
        rw [← step]; exact h1 k hk hk'
      · refine .inr ⟨k + 1, cls, q, by omega, by omega, by rw [← step]; exact h3, fun j hj hj' => ?_, h5⟩
        refine rest (fun j => j < k + 1 → s.dueAtSlot (n + Fin.ofNat 44 j) = none) (fun _ => hd) (fun i hi _ hij => ?_) j hj (by omega) hj'
        rw [← step]; exact h4 i hi (by omega)

/-! ### Marks -/

/-- A quotient rounded up is the least number that carries the dividend. -/
theorem ceilDiv_le_iff (a b p : Nat) (hb : 0 < b) : ceilDiv a b ≤ p ↔ a ≤ p * b := by
  unfold ceilDiv
  rw [← Nat.lt_add_one_iff, Nat.div_lt_iff_lt_mul hb, Nat.add_mul]
  omega

theorem insertMark_perm (m : Nat × Mark) (l : List (Nat × Mark)) : (insertMark m l).Perm (m :: l) := by
  induction l with
  | nil => exact List.Perm.refl _
  | cons x xs ih =>
    unfold insertMark; split
    · exact List.Perm.refl _
    · exact (List.Perm.cons x ih).trans (List.Perm.swap _ _ _)

/-- The report of a mark of an entry that has left the table does nothing (R82). -/
theorem reportMark_absent (c : ConfigRecord) (k : Nat) (m : Mark) (s : State) (h : s.table[k]? = none) : s.reportMark c k m = s := by
  unfold State.reportMark; rw [h]

@[simp] theorem reportMarks_nil (c : ConfigRecord) (k : Nat) (s : State) : s.reportMarks c k [] = s := rfl

@[simp] theorem reportMarks_cons (c : ConfigRecord) (k : Nat) (m : Mark) (ms : List Mark) (s : State) :
    s.reportMarks c k (m :: ms) = (s.reportMark c k m).reportMarks c k ms := rfl

/-! ### Trim -/

/-- A trim step stays between the current trim and the target. -/
theorem stepToward_between (step : Nat) (target current : Int) :
    min target current ≤ stepToward step target current ∧ stepToward step target current ≤ max target current := by
  unfold stepToward
  split
  · omega
  · split <;> omega

/-- The target is the raw trim clamped. -/
theorem clampTrim_fst (lim : Nat) (raw : Int) : (clampTrim lim raw).1 = max (-(lim : Int)) (min (lim : Int) raw) := by
  unfold clampTrim
  split
  · dsimp only; omega
  · split <;> dsimp only <;> omega

/-- Ramping out touches the trim alone. -/
theorem rampOut_eq (s : State) : ∃ t, s.rampOut = { s with trim := t } := by
  unfold State.rampOut
  cases s.trim.state <;> exact ⟨_, rfl⟩

/-- A new target touches the trim and, where it is newly clamped, the host port. -/
theorem retarget_eq (c : ConfigRecord) (e : Entry) (vd : Half) (s : State) :
    ∃ t h, s.retarget c e vd = { s with trim := t, host := h } := by
  unfold State.retarget
  split
  · dsimp only
    split
    · exact ⟨_, _, rfl⟩
    · split <;> exact ⟨_, _, rfl⟩
  · exact ⟨s.trim, s.host, rfl⟩

/-! ### Looper -/

/-- Lowering touches the looper and the trim alone. -/
theorem lowerLooper_eq (c : ConfigRecord) (s : State) : ∃ l t, s.lowerLooper c = { s with looper := l, trim := t } := by
  unfold State.lowerLooper
  cases s.looper.state with
  | lifting p =>
    dsimp only; unfold State.rampOut; dsimp only; cases s.trim.state <;> exact ⟨_, _, rfl⟩
  | regulating => dsimp only; unfold State.rampOut; dsimp only; cases s.trim.state <;> exact ⟨_, _, rfl⟩
  | parked => exact ⟨_, _, rfl⟩
  | armed => exact ⟨_, _, rfl⟩
  | lowering => exact ⟨_, _, rfl⟩
  | holdOff => exact ⟨_, _, rfl⟩

/-! ### Transactions -/

/-- With no SOFT_RESET due a transaction begins by forgetting the one before. -/
theorem openTransaction_eq (s : State) (h : s.host.softResetDue = false) :
    s.openTransaction = { s with host := { s.host with reading := .idle, response := none } } := by
  simp [State.openTransaction, h]

/-- A host command of the right length is what it does after the transaction is opened, and of a wrong one BAD_LENGTH. -/
theorem command_eq (ok : Bool) (take : State → State) (s : State) :
    s.command ok take = if ok then take s.openTransaction else s.openTransaction.refuse .badLength := rfl

end Sys2Proof.Laws
end

