-- ==== Sys2Proof/Laws/PerInstr.lean ====
section
/-! SUPPORT. The family `QueueFree`: no word of the table spells a command, so a command reaches the queue only from the outside and is
never put there by `decodeTableWord`. One lemma per constructor of `Instr`. -/

namespace Sys2Proof.Laws.QueueFree

open Sys2Proof Sys2Proof.Machine

/-- No word of any length spells this command. -/
def Statement (i : Instr) : Prop := ∀ nbits w : Nat, decodeTableWord nbits w ≠ some i

theorem reset (strap : BitVec 4) (encA encB : Bool) : Statement (.reset strap encA encB) := fun _ _ h => nomatch h
theorem configWrite (args : List Byte) : Statement (.configWrite args) := fun _ _ h => nomatch h
theorem start (args : List Byte) : Statement (.start args) := fun _ _ h => nomatch h
theorem statusRead (args : List Byte) : Statement (.statusRead args) := fun _ _ h => nomatch h
theorem eventRead (args : List Byte) : Statement (.eventRead args) := fun _ _ h => nomatch h
theorem eventRecordClockedOut : Statement (.eventRecordClockedOut) := fun _ _ h => nomatch h
theorem faultClear (args : List Byte) : Statement (.faultClear args) := fun _ _ h => nomatch h
theorem countersRead (args : List Byte) : Statement (.countersRead args) := fun _ _ h => nomatch h
theorem pieceAnnounce (args : List Byte) : Statement (.pieceAnnounce args) := fun _ _ h => nomatch h
theorem pieceWithdraw (args : List Byte) : Statement (.pieceWithdraw args) := fun _ _ h => nomatch h
theorem trackRead (args : List Byte) : Statement (.trackRead args) := fun _ _ h => nomatch h
theorem trackFind (args : List Byte) : Statement (.trackFind args) := fun _ _ h => nomatch h
theorem trackInsert (args : List Byte) : Statement (.trackInsert args) := fun _ _ h => nomatch h
theorem trackRemove (args : List Byte) : Statement (.trackRemove args) := fun _ _ h => nomatch h
theorem looperRelease (args : List Byte) : Statement (.looperRelease args) := fun _ _ h => nomatch h
theorem trainStop (args : List Byte) : Statement (.trainStop args) := fun _ _ h => nomatch h
theorem trainResume (args : List Byte) : Statement (.trainResume args) := fun _ _ h => nomatch h
theorem busRelink (args : List Byte) : Statement (.busRelink args) := fun _ _ h => nomatch h
theorem softReset (args : List Byte) : Statement (.softReset args) := fun _ _ h => nomatch h
theorem unknownCommand (code : Byte) (args : List Byte) : Statement (.unknownCommand code args) := fun _ _ h => nomatch h
theorem spiTransactionAborted (received : List Byte) : Statement (.spiTransactionAborted received) := fun _ _ h => nomatch h
theorem announceReceived (src : Fin 10) (seq : Byte) (a : Announce) : Statement (.announceReceived src seq a) := fun _ _ h => nomatch h
theorem pieceEntryReceived (src : Fin 10) (seq : Byte) (r : PieceRecord) : Statement (.pieceEntryReceived src seq r) := fun _ _ h => nomatch h
theorem pieceWithdrawReceived (src : Fin 10) (seq : Byte) (tag : Half) : Statement (.pieceWithdrawReceived src seq tag) := fun _ _ h => nomatch h
theorem headBiteReceived (src : Fin 10) (seq : Byte) (tag : Half) (anonymous : Bool) (speed : Half) : Statement (.headBiteReceived src seq tag anonymous speed) := fun _ _ h => nomatch h
theorem tailOutReceived (src : Fin 10) (seq : Byte) (tag : Half) (anonymous : Bool) : Statement (.tailOutReceived src seq tag anonymous) := fun _ _ h => nomatch h
theorem speedReportReceived (src : Fin 10) (seq : Byte) (tag speed : Half) : Statement (.speedReportReceived src seq tag speed) := fun _ _ h => nomatch h
theorem handoffFaultReceived (src : Fin 10) (seq : Byte) (tag : Half) (code : Byte) : Statement (.handoffFaultReceived src seq tag code) := fun _ _ h => nomatch h
theorem trainStopReceived (src : Fin 10) (seq : Byte) (level cause : Byte) : Statement (.trainStopReceived src seq level cause) := fun _ _ h => nomatch h
theorem trainResumeReceived (src : Fin 10) (seq : Byte) : Statement (.trainResumeReceived src seq) := fun _ _ h => nomatch h
theorem rxFailedReception (why : ReceptionFailure) : Statement (.rxFailedReception why) := fun _ _ h => nomatch h
theorem rxMalformed (why : Malformation) : Statement (.rxMalformed why) := fun _ _ h => nomatch h
theorem attemptBegin (slots : Nat) : Statement (.attemptBegin slots) := fun _ _ h => nomatch h
theorem attemptSuccess : Statement (.attemptSuccess) := fun _ _ h => nomatch h
theorem attemptFail : Statement (.attemptFail) := fun _ _ h => nomatch h
theorem announceTimerExpiry : Statement (.announceTimerExpiry) := fun _ _ h => nomatch h
theorem linkTimeout : Statement (.linkTimeout) := fun _ _ h => nomatch h
theorem encoderPulse (channel : Channel) : Statement (.encoderPulse channel) := fun _ _ h => nomatch h
theorem sampleRecord (bytes : List Byte) : Statement (.sampleRecord bytes) := fun _ _ h => nomatch h
theorem sampleLoss : Statement (.sampleLoss) := fun _ _ h => nomatch h
theorem encoderFault : Statement (.encoderFault) := fun _ _ h => nomatch h
theorem pieceAged : Statement (.pieceAged) := fun _ _ h => nomatch h
theorem liftTimeout : Statement (.liftTimeout) := fun _ _ h => nomatch h
theorem settleTimerExpiry : Statement (.settleTimerExpiry) := fun _ _ h => nomatch h
theorem lowerTimeout : Statement (.lowerTimeout) := fun _ _ h => nomatch h
theorem holdOffExpiry : Statement (.holdOffExpiry) := fun _ _ h => nomatch h
theorem reportAgeExpiry : Statement (.reportAgeExpiry) := fun _ _ h => nomatch h
theorem reportPeriodExpiry : Statement (.reportPeriodExpiry) := fun _ _ h => nomatch h
theorem bothChannelsChange : Statement (.bothChannelsChange) := fun _ _ h => nomatch h

end Sys2Proof.Laws.QueueFree
end

