-- ==== Sys2Proof/Laws/Wire.lean ====
section
/-! SUPPORT. Laws of the record formats: the fields of two and four bytes and their bytes determine each other, the records have the
lengths of Chapter 11, a piece record is read back from its bytes, and a frame from its bits on the line. -/

namespace Sys2Proof.Laws

open Sys2Proof.Machine

/-! ### Fields and bytes (R178) -/

theorem half_bytes (h : Half) : half (h.extractLsb' 8 8) (h.extractLsb' 0 8) = h := by
  unfold half
  apply BitVec.eq_of_getLsbD_eq
  intro i hi
  rw [BitVec.getLsbD_append]
  split
  · simp [*]
  · have : i - 8 < 8 := by omega
    have e : 8 + (i - 8) = i := by omega
    simp [this, e]

theorem word_bytes (w : Word) :
    word (w.extractLsb' 24 8) (w.extractLsb' 16 8) (w.extractLsb' 8 8) (w.extractLsb' 0 8) = w := by
  unfold word
  apply BitVec.eq_of_getLsbD_eq
  intro i hi
  rw [BitVec.getLsbD_append]
  split
  · simp [*]
  rw [BitVec.getLsbD_append]
  split
  · have e : 8 + (i - 8) = i := by omega
    simp [*]
  rw [BitVec.getLsbD_append]
  split
  · have e : 16 + (i - 8 - 8) = i := by omega
    simp [*]
  · have e : 24 + (i - 8 - 8 - 8) = i := by omega
    have : i - 8 - 8 - 8 < 8 := by omega
    simp [*]

theorem extract_append_above {n m : Nat} (a : BitVec n) (b : BitVec m) (k w : Nat) (h : m ≤ k) :
    (a ++ b).extractLsb' k w = a.extractLsb' (k - m) w := by
  apply BitVec.eq_of_getLsbD_eq
  intro i hi
  have : ¬ k + i < m := by omega
  have e : k + i - m = k - m + i := by omega
  simp [BitVec.getLsbD_append, BitVec.getLsbD_extractLsb', this, e]

theorem extract_append_below {n m : Nat} (a : BitVec n) (b : BitVec m) (k w : Nat) (h : k + w ≤ m) :
    (a ++ b).extractLsb' k w = b.extractLsb' k w := by
  apply BitVec.eq_of_getLsbD_eq
  intro i hi
  have : k + i < m := by omega
  simp [BitVec.getLsbD_append, BitVec.getLsbD_extractLsb', this]

@[simp] theorem bytes16_half (a b : Byte) : bytes16 (half a b) = [a, b] := by
  simp only [bytes16, half]
  rw [extract_append_above a b 8 8 (by omega), extract_append_below a b 0 8 (by omega)]
  simp

@[simp] theorem bytes32_word (a b c d : Byte) : bytes32 (word a b c d) = [a, b, c, d] := by
  simp only [bytes32, word]
  rw [extract_append_above (a ++ b ++ c) d 24 8 (by omega), extract_append_above (a ++ b ++ c) d 16 8 (by omega),
    extract_append_above (a ++ b ++ c) d 8 8 (by omega), extract_append_below _ d 0 8 (by omega)]
  rw [extract_append_above (a ++ b) c _ 8 (by omega), extract_append_above (a ++ b) c _ 8 (by omega),
    extract_append_below _ c _ 8 (by omega)]
  rw [extract_append_above a b _ 8 (by omega), extract_append_below _ b _ 8 (by omega)]
  simp

@[simp] theorem bytes16_length (h : Half) : (bytes16 h).length = 2 := rfl
@[simp] theorem bytes32_length (w : Word) : (bytes32 w).length = 4 := rfl
@[simp] theorem argHalf_bytes16 (h : Half) : argHalf (bytes16 h) 0 = h := half_bytes h

/-! ### Lengths (Tables 11.2, 11.3, 11.6) -/

@[simp] theorem passEntry_bytes_length (p : PassEntry) : p.bytes.length = 9 := rfl

theorem passes_bytes_length (ps : List PassEntry) : (ps.flatMap PassEntry.bytes).length = 9 * ps.length := by
  induction ps with
  | nil => rfl
  | cons p ps ih => rw [List.flatMap_cons, List.length_append, ih, passEntry_bytes_length, List.length_cons]; omega

/-- A piece record of c passes takes 5 + 9 × c bytes. -/
theorem pieceRecord_bytes_length (r : PieceRecord) : r.bytes.length = 5 + 9 * r.passes.length := by
  simp only [PieceRecord.bytes, List.length_append, bytes16_length, List.length_cons, List.length_nil, passes_bytes_length]

@[simp] theorem announce_bytes_length (a : Announce) : a.bytes.length = 11 := rfl

@[simp] theorem sample_fields_length (x : Sample) : x.fields.length = 10 := rfl

/-- A sample record takes thirteen bytes (Table 11.3). -/
@[simp] theorem sample_bytes_length (x : Sample) : x.bytes.length = 13 := rfl

/-- A command record takes ten bytes (Table 11.3). -/
@[simp] theorem commandRecord_bytes_length (r : CommandRecord) : r.bytes.length = 10 := rfl

@[simp] theorem event_bytes_length (e : Event) : e.bytes.length = 8 := rfl

/-! ### Piece records (R179, R181) -/

theorem passesOfBytes_bytes (ps : List PassEntry) : passesOfBytes (ps.flatMap PassEntry.bytes) = ps := by
  induction ps with
  | nil => rfl
  | cons p ps ih =>
    rw [List.flatMap_cons]
    simp only [PassEntry.bytes, bytes16, List.cons_append, List.nil_append, passesOfBytes, half_bytes]
    rw [ih]

/-- A piece record whose pass count fits its byte is read back from its bytes. -/
theorem pieceRecordOfBytes_bytes (r : PieceRecord) (h : r.passes.length ≤ 255) : pieceRecordOfBytes r.bytes = some r := by
  have hc : (byteOf r.passes.length).toNat = r.passes.length := by simp [byteOf]; omega
  simp only [PieceRecord.bytes, bytes16, List.cons_append, List.nil_append, pieceRecordOfBytes, passes_bytes_length, hc, if_true,
    half_bytes, passesOfBytes_bytes]

/-! ### Bits on the line (R30) -/

theorem bitsByte_bits (b : Byte) : bitsByte [b.getLsbD 0, b.getLsbD 1, b.getLsbD 2, b.getLsbD 3, b.getLsbD 4, b.getLsbD 5,
    b.getLsbD 6, b.getLsbD 7] = b := by
  revert b; decide

/-- A byte's ten bits on the line are read as that byte, its stop bit there. -/
theorem bytesOfBits_byteBits (b : Byte) (rest : Nat) (line : List Bool) :
    bytesOfBits rest (byteBits b ++ line) = { value := b, stopBit := true } :: bytesOfBits 0 line := by
  simp only [byteBits, List.cons_append, List.nil_append, bytesOfBits, bitsByte_bits]

/-- A frame and the four bit-times at the stop level after it are read as the bytes of the frame. -/
theorem bytesOfBits_frameBits (frame : List Byte) (after : List Bool) :
    bytesOfBits 0 (frameBits frame ++ List.replicate idleBits true ++ after) = undisturbed frame := by
  induction frame with
  | nil => rfl
  | cons b bs ih =>
    have : frameBits (b :: bs) ++ List.replicate idleBits true ++ after =
        byteBits b ++ (frameBits bs ++ List.replicate idleBits true ++ after) := by simp [frameBits]
    rw [this, bytesOfBits_byteBits, ih]; rfl

/-! ### Bits of the stand link and of the host port (R168, R180) -/

/-- A byte's ten bits on the stand link are read as that byte. -/
theorem linkBytes_byteBits (b : Byte) (line : List Bool) : linkBytes (byteBits b ++ line) = b :: linkBytes line := by
  simp only [byteBits, List.cons_append, List.nil_append, linkBytes, bitsByte_bits]

/-- The line at the stop level carries no byte. -/
theorem linkBytes_rest (n : Nat) : linkBytes (List.replicate n true) = [] := by
  induction n with
  | zero => rfl
  | succ n ih => rw [List.replicate_succ, linkBytes, ih]

/-- A record on the stand link, the line at rest after it, is read as its bytes. -/
theorem linkBytes_frameBits (record : List Byte) (n : Nat) : linkBytes (frameBits record ++ List.replicate n true) = record := by
  induction record with
  | nil => exact linkBytes_rest n
  | cons b bs ih =>
    rw [show frameBits (b :: bs) ++ List.replicate n true = byteBits b ++ (frameBits bs ++ List.replicate n true) by simp [frameBits],
      linkBytes_byteBits, ih]

/-- A byte's eight bits on SPI_DI are read as that byte. -/
theorem spiBytes_spiByteBits (b : Byte) (line : List Bool) : spiBytes (spiByteBits b ++ line) = b :: spiBytes line := by
  simp only [spiByteBits, List.cons_append, List.nil_append, spiBytes, bitsByte_bits]

/-- The bytes of a transaction are read from its bits, those after the last of them waiting for more. -/
theorem spiBytes_spiBits (bytes : List Byte) (line : List Bool) : spiBytes (spiBits bytes ++ line) = bytes ++ spiBytes line := by
  induction bytes with
  | nil => rfl
  | cons b bs ih =>
    rw [show spiBits (b :: bs) ++ line = spiByteBits b ++ (spiBits bs ++ line) by simp [spiBits], spiBytes_spiByteBits, ih,
      List.cons_append]

/-- Fewer than eight bits are no byte. -/
theorem spiBytes_part (part : List Bool) (h : part.length < 8) : spiBytes part = [] := by
  unfold spiBytes
  split
  · simp at h; omega
  · rfl

end Sys2Proof.Laws
end

