-- ==== Sys2Proof/Tests/Slice0.lean ====
section
/-! SUPPORT. Tests of the model: ill-formed commands that `Instr.wellFormed` refuses, the worked examples of the spec, small steps
of every command, and for each statement that has hypotheses a witness that they can be met. Expected values come from the spec's
tables and worked examples (named at each test) or from its rules by hand. -/

namespace Sys2Proof.Tests

set_option Elab.async false

open Sys2Proof.Machine

/-! ### The example station: stand 3 of the six-stand train (Sections 1.3, 2.9, 5.8, 6.10, 7.11, 8.11) -/

/-- The configuration of stand 3 as the worked examples give it. -/
def stand3 : ConfigRecord :=
  { trainId := 412, trainSize := 6, exitPresent := 0, reportPeriod := 10, announcePeriod := 50, linkTimeout := 5, mode := 0
    lUp := 5800, lDn := 5500, upp := 1073800, fOn := 4000, fOff := 2500, nOn := 40, nOff := 40, forceTolerance := 100
    windowTolerance := 30, armLead := 400, tailLead := 600, workingAngle := 180, parkAngle := 40, liftTime := 800
    settleTime := 120, lowerTime := 900, holdOff := 2000, tensionBand := 80, tensionLimit := 480, trimLimit := 40
    trimStep := 25, sampleTimeout := 5, encoderStall := 50, ageLimit := 30, stopThreshold := 4, autoStopHeadLost := 0
    autoStopLooper := 0, irqThreshold := 1, faultEnables := 1 }

/-- Table 1.6. -/
def piece101 : PieceRecord :=
  { tag := 101, barThickness := 32000
    passes := [⟨9000, 30, 2630, 22000, 180⟩, ⟨4200, 38, 5640, 18500, 150⟩, ⟨3100, 45, 7640, 15000, 120⟩,
               ⟨2400, 55, 9870, 12800, 100⟩, ⟨2000, 62, 11840, 11000, 85⟩, ⟨1800, 70, 13150, 0, 0⟩] }

/-- Stand 3 right after reset. -/
def afterReset : State := State.atReset 3 false false

/-- Stand 3 with its record written. -/
def written : State := { afterReset with station := { afterReset.station with config := some stand3 } }

/-- Stand 3 in this station state, its neighbours' lines in this acquisition state. -/
def stationIn (st : StationState) (acq : AcqState) (count : Nat) : State :=
  { written with station := { written.station with
    state := st, lines := [⟨2, .upstream, acq, count⟩, ⟨4, .downstream, acq, count⟩] } }

/-- Stand 3 RUNNING with an empty table. -/
def running : State := stationIn .running .acked 3

/-- Stand 3 STOPPED. -/
def stopped : State := stationIn .stopped .acked 3

/-- Stand 3 in LINKING, two agreeing telegrams counted from each neighbour, its timers running. -/
def linking : State :=
  { stationIn .linking .seek 2 with station := { (stationIn .linking .seek 2).station with
    announceTimer := some 50, linkTimer := some 5000 } }

/-- Piece 101 as an ANNOUNCED entry, and as an entry of another tag. -/
def announced (tag : Half) : Entry := announcedEntry stand3 3 .bus { piece101 with tag := tag }

/-- Piece 101 APPROACHING. -/
def approaching : Entry := { announced 101 with phase := .approaching }

/-- Piece 101 in stand, its window open, its head marks those of Section 6.10. -/
def inStand : Entry :=
  { announced 101 with
    phase := .inStand, downstream := .inWindow, verification := .verified, biteStamp := some 120000
    headMarks := some ⟨4354, 4754, 5050, true, true, false⟩ }

/-- Piece 101 in stand and CONFIRMED. -/
def confirmed : Entry := { inStand with downstream := .confirmed, headMarks := none }

/-- Piece 101 with the upstream TAIL_OUT taken at 173,500 (Table 6.4). -/
def tailApproaching : Entry :=
  { confirmed with
    phase := .tailApproaching, tailStamp := some ⟨173500, false⟩, tailMarks := some ⟨6403, 6792, 7214, false, false⟩ }

/-- Piece 101 gone from the stand. -/
def cleared : Entry := { confirmed with phase := .cleared }

/-- Stand 3 RUNNING with these entries at this pulse position, its detector LOADED. -/
def rolling (table : List Entry) (pulse : Word) : State :=
  { running with
    table := table, stand := { running.stand with pulse := pulse }, detector := { state := .loaded, verify := .idle } }

/-- Stand 3 regulating for piece 101, its trim TRACKING at 59 (step 9 of Table 12.1). -/
def regulating : State :=
  { rolling [confirmed] 125000 with
    looper := { Looper.reset with state := .regulating, served := 101 }
    trim := { state := .tracking, target := 59, current := 59, ageTimer := some 40, saturated := false, reportTimer := some 10 } }

/-- The state a command leads to. -/
def after (i : Instr) (s : State) : State :=
  match exec i s with
  | .next t => t
  | .fault _ | .refused _ => s

/-- The kinds and tags and details of the events queued. -/
def events (s : State) : List (EventKind × Half × Half) := s.host.events.map fun e => (e.kind, e.tag, e.detail)

/-- The tags, phases and downstream statuses of the table. -/
def table (s : State) : List (Half × Phase × Downstream) := s.table.map fun e => (e.tag, e.phase, e.downstream)

/-- The status and data of the last response. -/
def answer (s : State) : Option (Status × List Byte) := s.host.response.map fun r => (r.status, r.data)

/-- The telegrams queued, class 0 first. -/
def queued (s : State) : List Telegram :=
  (s.bus.stopQueue ++ s.bus.eventQueue ++ s.bus.reportQueue ++ s.bus.linkQueue).map Queued.telegram

/-! ### Well-formed commands -/

theorem test_long_arguments_refused : (Instr.trackFind (List.replicate 256 0)).wellFormed = false := by decide +kernel
theorem test_known_code_not_unknown : (Instr.unknownCommand 17 []).wellFormed = false := by decide
theorem test_complete_transaction_not_aborted : (Instr.spiTransactionAborted [2, 0]).wellFormed = false := by decide
theorem test_long_record_refused :
    (Instr.pieceEntryReceived 0 0 { piece101 with passes := List.replicate 11 ⟨0, 0, 0, 0, 0⟩ }).wellFormed = false := by decide
theorem test_wellFormed : (Instr.trackFind [0, 101]).wellFormed = true ∧ (Instr.unknownCommand 18 []).wellFormed = true ∧
    (Instr.spiTransactionAborted [2, 1]).wellFormed = true ∧ (Instr.pieceEntryReceived 0 0 piece101).wellFormed = true := by decide

/-! ### Worked examples -/

/-- The check of R178 over "123456789". -/
theorem test_crc : crc16 [0x31, 0x32, 0x33, 0x34, 0x35, 0x36, 0x37, 0x38, 0x39] = 0x29B1 := by decide +kernel

/-- Table 1.8. -/
theorem test_distances : distance 14902 10000 = 4902 ∧ distance 1200 4294967000 = 1496 ∧ distance 480 500 = 0 := by decide

/-- Section 6.10. -/
theorem test_head_marks : headMarksOf stand3 45 = ⟨4354, 4754, 5050, false, false, false⟩ := by decide
theorem test_tail_marks : tailMarksOf stand3 4200 3100 45 = ⟨6403, 6792, 7214, false, false⟩ := by decide

/-- Section 6.11. -/
theorem test_marks_at_the_limits :
    headMarksOf { stand3 with lDn := 1000, upp := 8000000, windowTolerance := 5 } 0 = ⟨0, 121, 129, false, false, false⟩ ∧
    expectedTail 12000 60000 500 10000 0 = 144000000 ∧ halfWidth 144000000 200 = 28800000 := by decide

/-- Section 8.11. -/
theorem test_matching_speeds : matchingSpeed 9850 2400 55 3100 45 = 7699 ∧ matchingSpeed 9340 2400 55 3100 45 = 7300 ∧
    matchingSpeed 9500 2400 55 3100 45 = 7425 := by decide
theorem test_trim_clamped : clampTrim 305 (-340) = (-305, some 1) ∧ clampTrim 305 (-215) = (-215, none) := by decide
theorem test_trim_steps : stepToward 25 59 0 = 25 ∧ stepToward 25 59 50 = 59 ∧ stepToward 25 (-305) 59 = 34 ∧
    stepToward 25 (-305) (-291) = -305 := by decide

/-- Section 1.3: the record of piece 101 is valid; with 2500 µm in pass 5 it fails check 5 there. -/
theorem test_record_checks : checkRecord 6 piece101 = none ∧
    checkRecord 6 { piece101 with passes := piece101.passes.set 4 ⟨2500, 62, 11840, 11000, 85⟩ } = some ⟨5, 5⟩ := by decide

/-- Section 3.4: the deferrals of Table 3.4. -/
theorem test_deferrals : deferral .stop 3 = 7 ∧ deferral .event 5 = 19 ∧ deferral .report 2 = 26 := by decide

/-- A TRAIN_RESUME of station 3, sequence 7, written out from Tables 3.1 and 11.1: kind 9 and source 3 in one byte, then 7, then the
length 0. -/
theorem test_frame_bytes : (Telegram.trainResume.frame 3 7).take 5 = [0x5A, 0xC3, 0x93, 0x07, 0x00] := by decide
/-- R30: 0x5A, least significant bit first, between start and stop bit; a byte without its stop bit; the idle that ends a frame. -/
theorem test_bits_on_the_line : frameBits [0x5A] = [false, false, true, false, true, true, false, true, false, true] ∧
    bytesOfBits 0 [true, false, true, true, true, true, true, true, true, true, false] = [⟨0xFF, false⟩] ∧
    bytesOfBits 0 ([true, true, true, true] ++ frameBits [0x5A]) = [] := by decide
theorem test_frame_received : receiveFrame (undisturbed ((Telegram.trainStop 4 1).frame 3 200)) = .trainStopReceived 3 200 4 1 := by
  decide +kernel

/-- R180: the start byte 0xA5 on SLINK_IN, then the idle. -/
theorem test_stand_link_bits :
    receiveRecord [false, true, false, true, false, false, true, false, true, true, true, true] = .sampleRecord [0xA5] := by decide

/-- R168: code 2 and length 0, most significant bit first, and three bits of a byte more; a transaction broken off within its length. -/
theorem test_spi_bits :
    receiveTransaction (List.replicate 6 false ++ [true, false] ++ List.replicate 11 false) = .start [] ∧
    receiveTransaction [false, false, false, false, false, false, true, false, false] = .spiTransactionAborted [2] := by decide

/-- R168, R181: the first four bits of the status NOT_FOUND, 1, and the whole of it. -/
theorem test_spi_bits_out :
    spiBitsOut (spiBits [9, 1, 7] ++ List.replicate 4 true) (some ⟨.notFound, [0]⟩) = List.replicate 28 false ∧
    spiBitsOut (spiBits [9, 1, 7, 0]) (some ⟨.notFound, [0]⟩) = List.replicate 31 false ++ [true] := by decide

/-- Code 2 with no arguments is START (R181). -/
theorem test_transaction : spiTransaction [2, 0] = .start [] ∧ spiTransaction [9, 1, 5] = .trackRead [5] := by decide

/-- The stand 3 record of Section 2.9 is in range; a park angle less than 50 below the working angle makes field 20 fail. -/
theorem test_ranges : stand3.firstBad = none ∧ ({ stand3 with parkAngle := 131 } : ConfigRecord).firstBad = some 20 := by decide

/-! ### Reset and the host port -/

/-- R29, R14: whatever the station was doing, it is at its reset values, its position that of the strap. -/
theorem test_reset : after (.reset 9 true false) { regulating with pending := [.start []] } =
    { State.atReset 9 true false with pending := [.start []] } := by decide +kernel

theorem test_config_write : (after (.configWrite stand3.bytes) afterReset).station.config = some stand3 ∧
    answer (after (.configWrite ({ stand3 with parkAngle := 131 } : ConfigRecord).bytes) afterReset) =
      some (.badArgument, [20]) := by decide +kernel
theorem test_config_write_running : answer (after (.configWrite stand3.bytes) running) = some (.wrongState, []) := by decide +kernel

/-- The first row of Table 2.8. -/
theorem test_start : (after (.start []) written).station.state = .linking ∧
    (after (.start []) written).station.lines = [⟨2, .upstream, .seek, 0⟩, ⟨4, .downstream, .seek, 0⟩] ∧
    queued (after (.start []) written) = [.announce ⟨true, 412, 6, false, 10, 5800, 5500, 0⟩] := by decide +kernel
theorem test_start_refused : answer (after (.start []) afterReset) = some (.badArgument, [0]) ∧
    answer (after (.start []) running) = some (.wrongState, []) := by decide +kernel

/-- Table 11.5: RUNNING is 2, position 3, STAND is 1, a record is held. -/
theorem test_status_read : ((answer (after (.statusRead []) running)).map fun r => (r.1, r.2.length, r.2.take 4)) =
    some (.ok, 48, [2, 3, 1, 1]) := by decide +kernel

/-- HEAD_LOST is kind 1 of class 0 (Table 10.3, R182). -/
theorem test_event_read : answer (after (.eventRead []) ({ running with timeBase := 0x10007 }.raise .headLost 101 1)) =
    some (.ok, [1, 0, 0, 101, 0, 1, 0, 7]) ∧
    answer (after (.eventRead []) running) = some (.ok, [0, 0, 0, 0, 0, 0, 0, 0]) := by decide +kernel
theorem test_event_clocked_out :
    events (after .eventRecordClockedOut (after (.eventRead []) ((running.raise .headLost 101 0).raise .linked 0 0))) =
      [(.linked, 0, 0)] ∧
    events (after .eventRecordClockedOut (running.raise .linked 0 0)) = [(.linked, 0, 0)] := by decide +kernel

/-- R181: HEAD_LOST is bit 0, EVENT_OVERFLOW bit 6 and STOPPED bit 8. -/
theorem test_fault_clear :
    (after (.faultClear [0, 0x41]) { running with host := { running.host with latched := 0x43, overflow := 10 } }).host =
      { running.host with latched := 0x02, response := some ⟨.ok, []⟩ } ∧
    answer (after (.faultClear [1, 0]) running) = some (.badArgument, []) := by decide +kernel
theorem test_counters_read : answer (after (.countersRead []) (after (.rxFailedReception .check) running)) =
    some (.ok, [0, 0, 0, 1] ++ List.replicate 16 0) ∧
    (after (.countersRead []) (after (.rxFailedReception .check) running)).bus.counters = Counters.zero := by decide +kernel

/-- The ENTRY station of the example train, RUNNING. -/
def entryStation : State :=
  { running with station := { running.station with position := 0, lines := [⟨1, .downstream, .acked, 3⟩] } }

theorem test_piece_announce : table (after (.pieceAnnounce piece101.bytes) entryStation) = [(101, .announced, .noHead)] ∧
    queued (after (.pieceAnnounce piece101.bytes) entryStation) = [.pieceEntry piece101] ∧
    answer (after (.pieceAnnounce piece101.bytes) running) = some (.wrongRole, []) := by decide +kernel
theorem test_piece_withdraw :
    table (after (.pieceWithdraw [0, 101]) (after (.pieceAnnounce piece101.bytes) entryStation)) = [] ∧
    answer (after (.pieceWithdraw [0, 101]) entryStation) = some (.notFound, []) := by decide +kernel

theorem test_track_read : ((answer (after (.trackRead [0]) (rolling [confirmed] 124910))).map fun r => (r.1, r.2.take 6)) =
    some (.ok, [0, 1, 0, 101, 0, 2]) ∧ answer (after (.trackRead [8]) running) = some (.badArgument, []) := by decide +kernel
theorem test_track_find : ((answer (after (.trackFind [0, 102]) (rolling [confirmed, announced 102] 0))).map
      fun r => (r.1, r.2.take 4)) = some (.ok, [1, 2, 0, 102]) ∧
    answer (after (.trackFind [0, 103]) (rolling [confirmed] 0)) = some (.notFound, [1]) := by decide +kernel

/-- Section 1.3: the insertion of piece 250. -/
theorem test_track_insert :
    let record := { piece101 with tag := 250, passes := piece101.passes.set 4 ⟨2500, 62, 11840, 11000, 85⟩ }
    answer (after (.trackInsert record.bytes) running) = some (.badArgument, [5, 5]) ∧
    events (after (.trackInsert record.bytes) running) = [(.pieceRefused, 250, 0x0055)] ∧
    ((after (.trackInsert piece101.bytes) running).table.map Entry.origin) = [.manual] := by decide +kernel
theorem test_track_remove : answer (after (.trackRemove [0, 101]) (rolling [confirmed] 0)) = some (.active, []) ∧
    table (after (.trackRemove [0, 102]) (rolling [confirmed, announced 102] 0)) = [(101, .inStand, .confirmed)] := by
  decide +kernel

theorem test_looper_release :
    (after (.looperRelease []) { running with looper := Looper.reset.heldOff stand3 }).looper = Looper.reset ∧
    answer (after (.looperRelease []) running) = some (.wrongState, []) ∧
    answer (after (.looperRelease []) entryStation) = some (.wrongRole, []) := by decide +kernel

/-- A host's stop at level 4 stops its own station, below its threshold or not (R161). -/
theorem test_train_stop : (after (.trainStop [3]) regulating).station.state = .stopped ∧
    queued (after (.trainStop [3]) regulating) = [.trainStop 3 0] ∧
    events (after (.trainStop [3]) regulating) = [(.stopActed, 0, 0x0330)] ∧
    answer (after (.trainStop [8]) running) = some (.badArgument, []) := by decide +kernel

/-- Section 12.3: a resume refused while the detector is LOADED, and taken once it is UNLOADED. -/
theorem test_train_resume :
    events (after (.trainResume []) { stopped with detector := { state := .loaded, verify := .idle } }) =
      [(.resumeRefused, 0, 0x0302)] ∧
    events (after (.trainResume []) stopped) = [(.resumed, 0, 3)] ∧
    (after (.trainResume []) stopped).station.state = .running := by decide +kernel

/-- The bus unit of a RUNNING stand 3 in SILENT. -/
def silent : State := { running with bus := { running.bus with state := .silent, failures := 16, good := 62 } }

theorem test_bus_relink : (after (.busRelink []) silent).bus = running.bus ∧ events (after (.busRelink []) silent) = [(.busActive, 0, 1)] ∧
    answer (after (.busRelink []) running) = some (.wrongState, []) := by decide +kernel
theorem test_soft_reset : answer (after (.softReset []) regulating) = some (.ok, []) ∧
    (after (.softReset []) regulating).station.state = .running ∧
    (after (.statusRead []) (after (.softReset []) regulating)).station = Station.reset 3 := by decide +kernel
theorem test_unknown_command : answer (after (.unknownCommand 18 [1, 2]) running) = some (.badArgument, []) := by decide +kernel
/-- R181: SPI_DO carries 0 while the host sends TRACK_READ of slot 7, then NOT_FOUND and the number of entries. -/
theorem test_spi_output : (after (.trackRead [7]) running).spiOutput [9, 1, 7, 0, 0, 0] = [0, 0, 0, 1, 0] ∧
    (after (.spiTransactionAborted [9, 1]) running).spiOutput [9, 1] = [0, 0] := by decide +kernel
theorem test_aborted_transaction : after (.spiTransactionAborted [9]) (after (.statusRead []) running) = running := by decide +kernel

/-! ### The train bus -/

/-- Table 2.8: the third agreeing ANNOUNCE of stand 2 lists position 3, so stand 2 becomes ACKED at once. -/
theorem test_announce_acked :
    (after (.announceReceived 2 0 ⟨true, 412, 6, false, 10, 6000, 5800, 0b1010⟩) linking).station.lines =
      [⟨2, .upstream, .acked, 3⟩, ⟨4, .downstream, .seek, 2⟩] ∧
    queued (after (.announceReceived 2 0 ⟨true, 412, 6, false, 10, 6000, 5800, 0b1010⟩) linking) =
      [.announce ⟨true, 412, 6, false, 10, 5800, 5500, 0b100⟩] := by decide +kernel

/-- Section 2.9: stand 4 with L_up = 5600 faults stand 3. -/
theorem test_announce_faults :
    (after (.announceReceived 4 0 ⟨true, 412, 6, false, 10, 5600, 5000, 0⟩) linking).station.fault = some (.distanceMismatch, 4) ∧
    events (after (.announceReceived 4 0 ⟨true, 412, 6, false, 10, 5600, 5000, 0⟩) linking) =
      [(.stationFaulted, 0, 0x0204)] := by decide +kernel

theorem test_piece_entry : table (after (.pieceEntryReceived 0 0 piece101) running) = [(101, .announced, .noHead)] ∧
    events (after (.pieceEntryReceived 2 0 piece101) running) = [(.unexpectedFrame, 101, 0x2205)] := by decide +kernel
theorem test_piece_withdraw_received :
    events (after (.pieceWithdrawReceived 0 0 101) (rolling [announced 101] 0)) = [(.pieceWithdrawn, 101, 1)] ∧
    events (after (.pieceWithdrawReceived 0 0 101) (rolling [approaching] 0)) = [(.unexpectedFrame, 101, 0x3001)] := by decide +kernel

/-- Steps 2 and 8 of Table 12.1. -/
theorem test_upstream_bite : table (after (.headBiteReceived 2 0 101 false 5000) { running with table := [announced 101, announced 102] }) =
    [(101, .approaching, .noHead), (102, .announced, .noHead)] := by decide +kernel
theorem test_downstream_bite :
    let s := after (.headBiteReceived 4 0 101 false 9850)
      { rolling [inStand] 124910 with looper := { Looper.reset with state := .armed, served := 101 } }
    table s = [(101, .inStand, .confirmed)] ∧ s.looper.state = .lifting .rise ∧ s.looper.liftTimer = some 800 ∧
      (s.trim.state, s.trim.target, s.trim.current, s.trim.ageTimer) = (.tracking, 59, 0, some 40) := by decide +kernel

/-- Steps 12 and 23 of Table 12.1. -/
theorem test_upstream_tail : (after (.tailOutReceived 2 0 101 false) (rolling [confirmed] 173500)).table = [tailApproaching] := by
  decide +kernel
theorem test_downstream_tail : (after (.tailOutReceived 4 0 101 false) { running with table := [cleared] }).table = [] ∧
    events (after (.tailOutReceived 4 0 101 false) { running with table := [cleared] }) = [(.pieceRetired, 101, 5)] := by decide +kernel

/-- R67: at the EXIT station the phase change alone is made. -/
theorem test_upstream_tail_at_exit :
    let s : State := { rolling [confirmed] 173500 with
      station := { running.station with position := 9, lines := [⟨6, .upstream, .acked, 3⟩] } }
    ((after (.tailOutReceived 6 0 101 false) s).table.map fun e => (e.phase, e.tailStamp)) = [(.tailApproaching, none)] := by
  decide +kernel

/-- Section 8.11: a report of 9340 mm/s clamps the target to −305. -/
theorem test_speed_report :
    let s := after (.speedReportReceived 4 0 101 9340) regulating
    (s.trim.target, s.trim.saturated) = (-305, true) ∧ events s = [(.trimSaturated, 101, 0x8131)] := by decide +kernel
theorem test_handoff_fault :
    let s := after (.handoffFaultReceived 4 0 101 3) regulating
    s.trim.state = .held ∧ (s.table.map fun e => e.flags.trimFaultHeld) = [true] ∧ events s = [(.trimHeld, 101, 0x0203)] := by decide +kernel

/-- Table 4.2: the flag is set in any trim state, at the ENTRY station too. -/
theorem test_handoff_fault_without_trim :
    let s : State := { entryStation with table := [confirmed] }
    ((after (.handoffFaultReceived 1 0 101 3) s).table.map fun e => e.flags.trimFaultHeld) = [true] ∧
    (after (.handoffFaultReceived 1 0 101 3) s).trim = s.trim := by decide +kernel

/-- Table 12.3: level 4 stops a station whose threshold is 4, level 3 does not. -/
theorem test_stop_received : (after (.trainStopReceived 5 0 4 1) regulating).station.state = .stopped ∧
    events (after (.trainStopReceived 5 0 4 1) regulating) = [(.stopActed, 0, 0x0451)] ∧
    events (after (.trainStopReceived 5 0 3 1) regulating) = [(.stopIgnored, 0, 0x0351)] := by decide +kernel
theorem test_resume_received : (after (.trainResumeReceived 5 0) stopped).station.state = .running ∧
    events (after (.trainResumeReceived 5 0) stopped) = [(.resumed, 0, 5)] := by decide +kernel

/-- Table 3.8: after sequence number 41, 41 again is a repeat and 44 a gap of 2. -/
theorem test_repeat_and_gap :
    let s := after (.speedReportReceived 4 41 101 9850) running
    (after (.speedReportReceived 4 41 101 9850) s).bus.counters.rxRepeat = 1 ∧
    (after (.tailOutReceived 4 44 101 false) s).bus.counters.seqGaps = 2 ∧
    (events (after (.tailOutReceived 4 44 101 false) s)).head? = some (.seqGap, 0, 0x0402) := by decide +kernel
theorem test_own_position : (after (.trainResumeReceived 3 0) regulating).station.state = .faulted ∧
    (after (.trainResumeReceived 3 0) regulating).station.fault = some (.duplicatePosition, 3) := by decide +kernel

theorem test_failed_reception : (after (.rxFailedReception .sync) silent).bus.good = 0 ∧
    (after (.rxFailedReception .sync) silent).bus.counters.rxCrc = 1 := by decide +kernel
theorem test_malformed : (after (.rxMalformed .kind) silent).bus.good = 0 ∧
    (after (.rxMalformed .kind) silent).bus.counters.rxMalformed = 1 := by decide +kernel

/-- Stand 3 with a TRAIN_STOP and a HANDOFF_FAULT queued. -/
def sending : State := (running.queueTelegram (.trainStop 4 1)).queueTelegram (.handoffFault 102 1)

/-- Section 12.3: the TRAIN_STOP goes out at deferral 7, the HANDOFF_FAULT at 17 of the next idle period. -/
theorem test_attempts :
    let first := after (.attemptBegin 7) sending
    let next := after .attemptSuccess first
    (first.bus.attempt.map Attempt.telegram) = some (.trainStop 4 1) ∧ first.bus.ownSeq = 1 ∧
    (after (.attemptBegin 6) sending).bus.line = .idle 6 ∧ (after (.attemptBegin 16) next).bus.attempt = none ∧
    ((after (.attemptBegin 17) next).bus.attempt.map Attempt.telegram) = some (.handoffFault 102 1) := by
  decide +kernel

/-- Table 3.3: a REPORT of position 3 has deferral 27. Queued at count 30 it waits for the count to come round (R38); a frame on the line
gives the count up (R39). -/
theorem test_slots_come_round :
    let s := (running.queueTelegram (.speedReport 101 7640)).withLine (.idle 30)
    (after (.attemptBegin 40) s).bus.line = .idle 26 ∧
    ((after (.attemptBegin 41) s).bus.attempt.map Attempt.cls) = some .report ∧
    (after (.trainResumeReceived 5 0) s).bus.line = .idle 0 := by decide +kernel

/-- R41: in the rest of the frame of a failed attempt no reception is taken; the next one is. -/
theorem test_lost_reception :
    let s := after .attemptFail (after (.attemptBegin 7) sending)
    (after (.trainResumeReceived 5 0) s).bus.counters.rxGood = 0 ∧ (after (.rxFailedReception .check) s).bus.counters.rxCrc = 0 ∧
    (after (.trainResumeReceived 5 0) (after (.rxFailedReception .check) s)).bus.counters.rxGood = 1 := by decide +kernel
theorem test_attempt_fails :
    let s := after .attemptFail (after (.attemptBegin 7) { sending with bus := { sending.bus with failures := 15 } })
    s.bus.state = .silent ∧ s.bus.eventQueue = [] ∧ events s = [(.busSilent, 0, 0)] := by decide +kernel

/-! ### The time base -/

theorem test_announce_timer :
    queued (after .announceTimerExpiry { linking with station := { linking.station with announceTimer := some 0 } }) =
      [.announce ⟨true, 412, 6, false, 10, 5800, 5500, 0⟩] ∧ after .announceTimerExpiry linking = linking := by decide +kernel

/-- R21: positions 2 and 4 are missing. -/
theorem test_link_timeout :
    events (after .linkTimeout { linking with station := { linking.station with linkTimer := some 0 } }) =
      [(.linkTimeout, 0, 0b10100)] := by decide +kernel
theorem test_sample_loss :
    let s := after .sampleLoss { regulating with stand := { regulating.stand with sampleTimer := some 0, lastSeq := some 9 } }
    s.stand.sampleLoss = true ∧ s.looper.state = .holdOff ∧ events s = [(.sampleLoss, 0, 9)] ∧ queued s = [.handoffFault 101 5] := by
  decide +kernel
theorem test_encoder_fault :
    let s := after .encoderFault { rolling [inStand] 124910 with stand := { (rolling [inStand] 124910).stand with
      stallTimer := some 0, latest := some ⟨0, 15000, 500, 0, 0, false⟩ } }
    s.stand.encoderStall = true ∧ table s = [(101, .inStand, .untimed)] ∧ events s = [(.encoderFault, 0, 500)] := by decide +kernel
theorem test_piece_aged :
    let old : Entry := { cleared with age := 30000 }
    events (after .pieceAged { running with table := [old] }) = [(.pieceAged, 101, 0x0405)] ∧
    after .pieceAged { running with table := [{ old with age := 29999 }] } = { running with table := [{ old with age := 29999 }] } := by
  decide +kernel
theorem test_lift_timeout :
    let s := after .liftTimeout { regulating with
      stand := { regulating.stand with latest := some ⟨0, 0, 0, 120, 0, false⟩ }
      looper := { regulating.looper with state := .lifting .rise, liftTimer := some 0 } }
    s.looper.state = .holdOff ∧ events s = [(.liftTimeout, 101, 120)] ∧ s.host.latched = 0x04 := by decide +kernel
theorem test_settle_timer :
    let s := after .settleTimerExpiry { regulating with looper := { regulating.looper with
      state := .lifting .settle, settleTimer := some 0 } }
    s.looper.state = .regulating ∧ events s = [(.handoffDone, 101, 0)] := by decide +kernel
theorem test_lower_timeout :
    let s := after .lowerTimeout { regulating with
      stand := { regulating.stand with latest := some ⟨0, 0, 0, 60, 0, false⟩ }
      looper := { regulating.looper with state := .lowering, lowerTimer := some 0 } }
    s.looper.state = .holdOff ∧ events s = [(.lowerTimeout, 101, 60)] ∧ queued s = [.handoffFault 101 4] := by decide +kernel
theorem test_hold_off_expiry :
    (after .holdOffExpiry { running with looper := { Looper.reset with state := .holdOff, holdOffTimer := some 0 } }).looper =
      Looper.reset := by decide +kernel
theorem test_report_age :
    let s := after .reportAgeExpiry { regulating with trim := { regulating.trim with ageTimer := some 0 } }
    s.trim.state = .held ∧ events s = [(.trimHeld, 101, 0x0100)] := by decide +kernel
theorem test_report_period :
    let s := after .reportPeriodExpiry { regulating with
      stand := { regulating.stand with latest := some ⟨0, 0, 7640, 0, 0, false⟩ }
      trim := { regulating.trim with reportTimer := some 0 } }
    s.trim.reportTimer = some 10 ∧ queued s = [.speedReport 101 7640] := by decide +kernel

/-- With no command waiting a millisecond passes, and a timer that comes to its end has its command join the queue. -/
theorem test_tick : step { regulating with trim := { regulating.trim with reportTimer := some 1 } } =
    .next { regulating with
      timeBase := 1
      stand := { regulating.stand with sinceSample := 1 }
      trim := { regulating.trim with ageTimer := some 39, reportTimer := some 0 }
      pending := [.reportPeriodExpiry] } := by rfl

/-! ### The stand -/

/-- Table 6.4: the pulse to 124,354 reaches the arm point, that to 125,051 the expiry. -/
theorem test_pulse_arms :
    let e : Entry := { inStand with downstream := .pending, headMarks := some ⟨4354, 4754, 5050, false, false, false⟩ }
    let s := after (.encoderPulse .a) (rolling [e] 124353)
    s.stand.pulse = 124354 ∧ s.looper.state = .armed ∧ s.looper.served = 101 ∧ s.stand.encA = true := by decide +kernel
theorem test_pulse_expires :
    let s := after (.encoderPulse .a) (rolling [inStand] 125050)
    table s = [(101, .inStand, .lost)] ∧ events s = [(.headLost, 101, 0)] ∧ s.looper.state = .holdOff := by decide +kernel
theorem test_both_channels : (after .bothChannelsChange running).stand =
    { running.stand with encA := true, encB := true } := by decide +kernel

/-- Stand 3 with piece 101 APPROACHING and a load pending since 120,000, at 120,042 (Table 5.3). -/
def biting : State :=
  { rolling [approaching] 120042 with detector := { state := .onPending 120000 6, verify := .idle } }

/-- Table 5.3, Table 6.4: sample 23 confirms the bite of 101 and begins its verification in the band 13500..16500. -/
theorem test_sample_bites :
    let s := after (.sampleRecord (Sample.bytes ⟨23, 14800, 7630, 0, 0, false⟩)) biting
    table s = [(101, .inStand, .pending)] ∧ s.detector = ⟨.loaded, .awaiting 14800 13500 16500 120000⟩ ∧
    queued s = [.headBite 101 false 7630] ∧ events s = [(.ownBite, 101, 0)] ∧
    (s.table.map Entry.headMarks) = [some ⟨4354, 4754, 5050, false, false, false⟩] := by decide +kernel

/-- Table 6.4: the load-off of 101, p1 = 180,514, at tail distance 7014. -/
theorem test_sample_tail_out :
    let s := after (.sampleRecord (Sample.bytes ⟨0, 100, 0, 0, 0, false⟩))
      { rolling [tailApproaching] 180556 with detector := { state := .offPending 180514 6, verify := .idle } }
    table s = [(101, .cleared, .confirmed)] ∧ events s = [(.ownTailOut, 101, 0)] ∧ queued s = [.tailOut 101 false] ∧
    s.detector.state = .unloaded := by decide +kernel

/-- Table 7.6: a tension of 131 adds 16, and the answer carries REGULATE, 120 kN and the trim. -/
theorem test_sample_integrates :
    let s := after (.sampleRecord (Sample.bytes ⟨5, 15000, 7640, 182, 131, false⟩)) regulating
    s.looper.integrator = 16 ∧ s.stand.sent = some ⟨5, .regulate, 120, 59, .running⟩ := by decide +kernel

/-- Section 7.13: from 464 the sample of 95 kN makes the TENSION fault, and its own answer carries PARK. -/
theorem test_sample_tension_fault :
    let s := after (.sampleRecord (Sample.bytes ⟨5, 15000, 7640, 182, 95, false⟩))
      { regulating with looper := { regulating.looper with integrator := 464 } }
    s.looper.state = .holdOff ∧ events s = [(.tensionFault, 101, 95)] ∧ s.stand.sent = some ⟨5, .park, 0, 59, .running⟩ := by
  decide +kernel
theorem test_sample_refused : (after (.sampleRecord [0xA5, 2, 3]) running).stand.sampleErrors = 1 ∧
    after (.sampleRecord [1, 2, 3]) running = running := by decide +kernel

/-- Section 10.9: a full queue of 3 events of class 1, 21 of class 2 and 8 of class 3 gives up its youngest of class 3 to one of class 2;
another of class 3 is then discarded. -/
theorem test_event_overflow :
    let full := (List.range 32).foldl (fun s i =>
      State.raise (if i < 3 then .ownBite else if i < 24 then .unexpectedFrame else .seqGap) (BitVec.ofNat 16 i) 0 s) running
    let s := full.raise .unexpectedFrame 99 0
    s.host.events.length = 32 ∧ ((events s).drop 30) = [(.seqGap, 30, 0), (.unexpectedFrame, 99, 0)] ∧ s.host.overflow = 1 ∧
    s.host.latched = 0x40 ∧ (full.host.events.map fun e => e.kind.cls).count 3 = 8 := by decide +kernel

/-! ### Witnesses: the hypotheses of each statement can be met together, clause by clause

Each theorem is named after its statement and lists, in the order of the clauses, states and operands that meet the hypotheses: at the
edges of their ranges where they have any. -/

/-- A state with these entries waiting for their bites in a RUNNING, UNLOADED stand 3. -/
def holding (table : List Entry) : State := { running with table := table }

/-- Eight entries of different tags, the third of them CLEARED. -/
def fullTable : List Entry :=
  [announced 1, announced 2, { announced 3 with phase := .cleared }, announced 4, announced 5, announced 6, announced 7, announced 8]

/-- Eight ANNOUNCED entries. -/
def fullOfAnnounced : List Entry := (List.range 8).map fun i => announced (BitVec.ofNat 16 (i + 1))

/-- A record that fails check k first, in pass i. -/
def failing : Nat → Nat → PieceRecord
  | 1, _ => { piece101 with tag := 0 }
  | 2, _ => { piece101 with passes := piece101.passes.take 5 }
  | 3, _ => { piece101 with barThickness := 7999 }
  | 4, i => { piece101 with passes := piece101.passes.set (i - 1) ⟨499, 0, 300, 0, 1⟩ }
  | 5, i => { piece101 with passes := piece101.passes.set (i - 1) ⟨32001, 0, 300, 0, 1⟩ }
  | 6, i => { piece101 with passes := piece101.passes.set (i - 1) ⟨1800, 151, 300, 0, 1⟩ }
  | 7, i => { piece101 with passes := piece101.passes.set (i - 1) ⟨1800, 150, 25001, 0, 1⟩ }
  | 8, i => { piece101 with passes := piece101.passes.set (i - 1) ⟨1800, 150, 25000, 60001, 1⟩ }
  | _, i => { piece101 with passes := piece101.passes.set (i - 1) ⟨1800, 150, 25000, 60000, if i < 6 then 2001 else 1⟩ }

theorem test_witness_StepRunsTheCommandInFront :
    ({ running with pending := [.attemptSuccess, .attemptFail] } : State).pending = .attemptSuccess :: [.attemptFail] := by decide
theorem test_witness_IdleStepIsOneTickOfTheTimeBase :
    (rolling [cleared] 0).pending = [] ∧ (rolling [cleared] 0).table[0]? = some cleared := by decide +kernel
theorem test_witness_ConfigWriteAcceptsOrNamesTheFailingField :
    afterReset.host.softResetDue = false ∧ ([] : List Byte).length ≠ 59 ∧ running.station.state ≠ .configuring ∧
    (afterReset.station.state = .configuring ∧ stand3.firstBad = none ∧
      ({ stand3 with trainId := 0 } : ConfigRecord).firstBad = some 1 ∧
      ({ stand3 with faultEnables := 2048 } : ConfigRecord).firstBad = some 36) := by decide +kernel
theorem test_witness_ConfigurationRecordBytesRoundTrip : (List.replicate 59 (7 : Byte)).length = 59 := by decide +kernel
theorem test_witness_StartMakesItsFourTestsInOrder :
    afterReset.host.softResetDue = false ∧ running.station.state ≠ .configuring ∧
    ((State.atReset 10 false false).station.state = .configuring ∧ 10 ≤ (State.atReset 10 false false).station.position.toNat) ∧
    ((State.atReset 9 false false).station.position.toNat ≤ 9 ∧ (State.atReset 9 false false).station.config = none) ∧
    (written.station.config = some stand3 ∧ (7 : BitVec 4).toNat ≤ 8 ∧ stand3.trainSize.toNat < (7 : BitVec 4).toNat ∧
      stand3.exitPresent ≠ 1) := by decide +kernel
theorem test_witness_StartEntersLinkingWithTheRequiredNeighbours :
    (written.host.softResetDue = false ∧ written.station.state = .configuring ∧ written.station.config = some stand3 ∧
      written.station.position.toNat ≤ 8 ∧ written.station.position.toNat ≤ stand3.trainSize.toNat) ∧
    ((9 : BitVec 4).toNat = 9 ∧ ({ stand3 with exitPresent := 1 } : ConfigRecord).exitPresent = 1) ∧
    ({ stand3 with trainSize := 8 } : ConfigRecord).trainSize.toNat ≤ 8 ∧
    1 ≤ (1 : BitVec 4).toNat ∧ (8 : BitVec 4).toNat ≤ 8 := by decide +kernel

/-- Stand 3 RUNNING, expecting from station 4 the number after 41. -/
def expecting (s : State) : State := { s with bus := { s.bus with expect := s.bus.expect.set 4 (some 41) } }

theorem test_witness_ReceptionMakesTheSequenceTestsInOrder :
    ((4 : Fin 10).val ≠ running.station.position.toNat ∧ running.bus.line ≠ .lost ∧ silent.bus.state = .silent ∧
      silent.bus.good < 63) ∧
    (expecting running).bus.expect[(4 : Fin 10)] = some 41 ∧
    (afterReset.station.state = .configuring ∧ afterReset.bus.expect[(4 : Fin 10)] = none ∧
      (expecting afterReset).bus.expect[(4 : Fin 10)] = some (42 - 1) ∧
      (expecting afterReset).bus.expect[(4 : Fin 10)] ≠ some 0 ∧
      (Telegram.announce ⟨true, 412, 6, false, 10, 5500, 5000, 0⟩).isLinking = true) ∧
    ((41 : Byte) ≠ 44 ∧ (41 : Byte) + 1 ≠ 44 ∧ Telegram.trainResume.isLinking = false) ∧
    running.station.state = .running := by decide +kernel
theorem test_witness_TelegramFromOwnPositionFaultsTheStation :
    (3 : Fin 10).val = running.station.position.toNat ∧ running.bus.line ≠ .lost ∧ running.station.state = .running ∧
    afterReset.station.state = .configuring := by decide +kernel
theorem test_witness_ConsecutiveGoodCountLeadsOutOfSilent :
    running.bus.state = .active ∧ silent.bus.state = .silent ∧ silent.bus.good < 63 ∧ silent.bus.attempt = none ∧
    (after (.attemptBegin 7) sending).bus.attempt ≠ none ∧ (running.withLine .lost).bus.line = .lost ∧ running.bus.line ≠ .lost ∧
    (let s : State := { silent with bus := { silent.bus with good := 63 } }
     s.Hears 4 0 ∧ s.bus.state = .silent ∧ 63 ≤ s.bus.good) := by
  repeat' first | decide +kernel | constructor
theorem test_witness_UndisturbedFrameIsReceivedAsSent :
    (Telegram.pieceEntry { piece101 with passes := List.replicate 10 ⟨0, 0, 0, 0, 0⟩ }).payload.length ≤ 96 ∧
    running.bus.attempt = none ∧
    (after (.attemptBegin 7) sending).bus.attempt = some ⟨.trainStop 4 1, 0, .stop, true⟩ := by decide +kernel
theorem test_witness_DamagedOrMalformedFrameIsDiscarded :
    ([] : List RawByte).length < 5 ∧ 96 < (97 : Byte).toNat ∧
    ((96 : Byte).toNat ≤ 96 ∧ ([0] : List Byte).length < (0 : Byte).toNat + 2 ∧ (0 : Byte).toNat + 2 < ([0, 0, 0] : List Byte).length) ∧
    ((0x5B : Byte) ≠ 0x5A ∨ (0xC3 : Byte) ≠ 0xC3) ∧
    (([] : List Byte).length = (0 : Byte).toNat ∧
      half 0 0 ≠ crc16 ([0x93, 0, 0] ++ []) ∧
      ((0x03 : Byte).toNat / 16 = 0 ∨ 9 < (0x03 : Byte).toNat / 16) ∧ 9 < (0xA3 : Byte).toNat / 16 ∧
      1 ≤ (0x9A : Byte).toNat / 16 ∧ (0x9A : Byte).toNat / 16 ≤ 9 ∧ 9 < (0x9A : Byte).toNat % 16 ∧ (0x99 : Byte).toNat % 16 ≤ 9) ∧
    (([7] : List Byte).length ≠ payloadLength 9 ∧ ([0, 1, 2, 0, 0] : List Byte).length ≠ 5 + 9 * (2 : Byte).toNat) := by decide +kernel

/-- Stand 3 hears its neighbours and the ENTRY station in every station state, and while SILENT. -/
theorem test_witness_Hears : running.Hears 2 7 ∧ running.Hears 4 0 ∧ running.Hears 0 0 ∧ running.Hears 6 0 ∧ (expecting running).Hears 4 42 ∧
    silent.Hears 4 0 ∧ linking.Hears 2 0 ∧ linking.Hears 4 0 ∧ stopped.Hears 5 0 ∧ (rolling [confirmed] 0).Hears 2 0 ∧
    (rolling [confirmed] 0).Hears 4 0 ∧ regulating.Hears 4 0 := by
  repeat' first | decide +kernel | constructor

/-- The states of these witnesses are RUNNING under the record of stand 3. -/
theorem test_witness_Runs : running.Runs stand3 ∧ (holding fullTable).Runs stand3 ∧ (rolling [confirmed] 173500).Runs stand3 ∧
    regulating.Runs stand3 := by
  repeat' first | decide +kernel | constructor

/-- Stand 3 in LINKING with stand 2 in this acquisition state and stand 4 in that. -/
def linkingWith (st2 st4 : AcqState) (count : Nat) : State :=
  { linking with station := { linking.station with lines := [⟨2, .upstream, st2, count⟩, ⟨4, .downstream, st4, 3⟩] } }

/-- Whatever their tables and positions, the states of the witnesses below hear stands 2, 4 and 6 and the ENTRY station, run under the
record of stand 3, and have no reset due. -/
theorem test_witness_HearsAndRuns (entries : List Entry) (pulse : Word) :
    ((holding entries).Hears 2 0 ∧ (holding entries).Hears 4 0 ∧ (holding entries).Hears 0 0 ∧ (holding entries).Hears 6 0) ∧
    ((rolling entries pulse).Hears 2 0 ∧ (rolling entries pulse).Hears 4 0) ∧
    (holding entries).Runs stand3 ∧ (rolling entries pulse).Runs stand3 ∧ (holding entries).host.softResetDue = false ∧
    (rolling entries pulse).host.softResetDue = false := by
  obtain ⟨-, h4, h0, h6, -, -, -, -, -, h2, -, -⟩ := test_witness_Hears
  obtain ⟨h, -, -, -⟩ := test_witness_Runs
  exact ⟨⟨⟨h2.other, h2.inSequence, h2.listens⟩, ⟨h4.other, h4.inSequence, h4.listens⟩, ⟨h0.other, h0.inSequence, h0.listens⟩,
    ⟨h6.other, h6.inSequence, h6.listens⟩⟩, ⟨⟨h2.other, h2.inSequence, h2.listens⟩, ⟨h4.other, h4.inSequence, h4.listens⟩⟩,
    ⟨h.running, h.config⟩, ⟨h.running, h.config⟩, rfl, rfl⟩
theorem test_witness_NoResetIsDue :
    afterReset.host.softResetDue = false ∧ written.host.softResetDue = false ∧ linking.host.softResetDue = false ∧
    running.host.softResetDue = false ∧ stopped.host.softResetDue = false ∧ silent.host.softResetDue = false ∧
    entryStation.host.softResetDue = false := by decide +kernel

theorem test_witness_AnnounceWhileLinkingAcquiresTheNeighbour :
    (linkingWith .seek .seek 1).Hears 2 0 ∧ (linkingWith .matched .acked 3).Hears 2 0 ∧ (linkingWith .acked .seek 3).Hears 2 0 ∧
    (linking.station.state = .linking ∧ linking.station.config = some stand3) ∧
    ((linkingWith .seek .seek 1).line? 2 = some ⟨2, .upstream, .seek, 1⟩ ∧ (linkingWith .seek .seek 2).line? 2 = some ⟨2, .upstream, .seek, 2⟩ ∧
      (linkingWith .matched .seek 3).line? 2 = some ⟨2, .upstream, .matched, 3⟩ ∧
      (linkingWith .matched .acked 3).line? 2 = some ⟨2, .upstream, .matched, 3⟩ ∧
      (linkingWith .acked .seek 3).line? 2 = some ⟨2, .upstream, .acked, 3⟩) ∧
    (let a : Announce := ⟨true, 412, 6, false, 10, 6000, 5800, 0b1000⟩;
      (a.trainId = stand3.trainId ∧ a.trainSize.toNat = stand3.trainSize.toNat ∧ a.exitPresent = (stand3.exitPresent == 1) ∧
        a.reportPeriod = stand3.reportPeriod) ∧ a.lDn = stand3.lUp ∧ { a with trainId := 413 }.trainId ≠ stand3.trainId ∧
        { a with lDn := 5799 }.lDn ≠ stand3.lUp ∧ a.heard.getLsbD 3 = true ∧ { a with heard := 0b10 }.heard.getLsbD 3 = false) ∧
    ((linkingWith .seek .acked 2).line? 2 = some ⟨2, .upstream, .seek, 2⟩ ∧
      ∀ m ∈ (linkingWith .seek .acked 2).station.lines, m.position ≠ 2 → m.state = .acked) ∧
    (∀ m ∈ (linkingWith .matched .acked 3).station.lines, m.position ≠ 2 → m.state = .acked) ∧
    ¬ (∀ m ∈ (linkingWith .matched .seek 3).station.lines, m.position ≠ 2 → m.state = .acked) := by
  refine ⟨?_, ?_, ?_, by decide +kernel⟩ <;> (repeat' first | decide +kernel | constructor)
theorem test_witness_AnnounceWhileRunningIsAnsweredAndFaultsNothing :
    running.station.config = some stand3 ∧ running.station.state = .running ∧ running.line? 6 = none ∧
    running.line? 2 = some ⟨2, .upstream, .acked, 3⟩ ∧ stopped.station.state = .stopped := by decide +kernel
theorem test_witness_PieceRecordIsCheckedInOrderAndWindowed :
    ((failing 1 0).tag = 0 ∧ (failing 2 0).tag ≠ 0 ∧ (failing 2 0).passes.length ≠ 6 ∧
      (failing 3 0).passes.length = 6 ∧ (failing 3 0).barThickness.toNat < 8000 ∧
      60000 < ({ piece101 with barThickness := 60001 } : PieceRecord).barThickness.toNat) ∧
    (piece101.tag ≠ 0 ∧ piece101.passes.length = 6 ∧ 8000 ≤ piece101.barThickness.toNat ∧ piece101.barThickness.toNat ≤ 60000) ∧
    (checkRecord 6 (failing 4 6) = some ⟨4, 6⟩ ∧ checkRecord 6 (failing 5 1) = some ⟨5, 1⟩ ∧ checkRecord 6 (failing 6 1) = some ⟨6, 1⟩ ∧
      checkRecord 6 (failing 7 6) = some ⟨7, 6⟩ ∧ checkRecord 6 (failing 8 1) = some ⟨8, 1⟩ ∧
      checkRecord 6 (failing 9 1) = some ⟨9, 1⟩ ∧ checkRecord 6 (failing 9 6) = some ⟨9, 6⟩) ∧
    (piece101.passes.length = stand3.trainSize.toNat ∧ 1 ≤ stand3.trainSize.toNat ∧ stand3.trainSize.toNat ≤ 8 ∧
      1 ≤ (1 : BitVec 4).toNat ∧ 2 ≤ (2 : BitVec 4).toNat ∧ (5 : BitVec 4).toNat < stand3.trainSize.toNat ∧
      (6 : BitVec 4).toNat = stand3.trainSize.toNat) := by decide +kernel
theorem test_witness_PieceEntryCreatesAnEntryOrIsRefused :
    ((2 : Fin 10) ≠ 0 ∧ checkRecord stand3.trainSize.toNat (failing 3 0) = some ⟨3, 0⟩ ∧
      checkRecord stand3.trainSize.toNat piece101 = none) ∧
    ¬ (holding [announced 101]).Unknown 101 ∧ ((holding fullTable).Unknown 101 ∧ (holding (fullTable.take 7)).table.length < 8) ∧
    (8 ≤ (holding fullOfAnnounced).table.length ∧ (∀ e ∈ (holding fullOfAnnounced).table, e.phase ≠ .cleared)) ∧
    (8 ≤ (holding fullTable).table.length ∧
      (holding fullTable).Oldest (fun e => e.phase = .cleared) 2 { announced 3 with phase := .cleared }) := by decide +kernel
theorem test_witness_PieceWithdrawTelegramRemovesAnAnnouncedEntry :
    (holding []).Unknown 0 ∧ (holding [announced 1, announced 2]).Names 2 1 (announced 2) ∧ (announced 2).phase = .announced ∧
    (holding [approaching]).Names 101 0 approaching ∧ approaching.phase ≠ .announced := by decide +kernel

/-- Whatever record it is taken for, a single byte carries none. -/
theorem test_witness_HostPieceRecordsAreTestedInOrder :
    (∀ r : PieceRecord, r.passes.length ≤ 255 → ([7] : List Byte) ≠ r.bytes) ∧
    (piece101.passes.length ≤ 255 ∧ running.station.position ≠ 0 ∧ entryStation.station.position = 0 ∧
      ({ entryStation with station := { entryStation.station with state := .stopped } } : State).station.state ≠ .running) ∧
    checkRecord stand3.trainSize.toNat (failing 1 0) = some ⟨1, 0⟩ ∧ checkRecord stand3.trainSize.toNat piece101 = none ∧
    ¬ (holding [announced 101]).Unknown 101 ∧
    ((holding fullOfAnnounced).Unknown 101 ∧ (∀ e ∈ (holding fullOfAnnounced).table, e.phase ≠ .cleared)) := by
  refine ⟨fun r _ h => ?_, by decide +kernel⟩
  have := congrArg List.length h
  simp [PieceRecord.bytes, bytes16] at this
theorem test_witness_HostPieceRecordsCreateAnEntry :
    (entryStation.host.softResetDue = false ∧ entryStation.station.position = 0 ∧ piece101.passes.length ≤ 255 ∧
      checkRecord stand3.trainSize.toNat piece101 = none) ∧
    ((holding (fullTable.take 7)).Unknown 101 ∧ (holding (fullTable.take 7)).table.length < 8) ∧
    ((holding fullTable).Unknown 101 ∧ 8 ≤ (holding fullTable).table.length ∧
      (holding fullTable).Oldest (fun e => e.phase = .cleared) 2 { announced 3 with phase := .cleared }) := by decide +kernel
theorem test_witness_HostRemovalsTestAndRemove :
    running.host.softResetDue = false ∧ running.station.position ≠ 0 ∧
    (entryStation.station.position = 0 ∧ entryStation.station.state = .running ∧ entryStation.Unknown 5 ∧
      ({ entryStation with table := [announced 101] } : State).Names 101 0 (announced 101) ∧
      ({ entryStation with table := [cleared] } : State).Names 101 0 cleared ∧ cleared.phase ≠ .announced) ∧
    stopped.station.state ≠ .running ∧ (∀ e ∈ (holding [cleared]).table, e.tag ≠ 5) ∧
    ((holding [inStand]).Oldest (fun e => e.tag = 101) 0 inStand ∧ (holding [tailApproaching]).Oldest (fun e => e.tag = 101) 0 tailApproaching ∧
      (holding [cleared, { announced 101 with tag := 0 }]).Oldest (fun e => e.tag = 0) 1 { announced 101 with tag := 0 }) := by decide +kernel
theorem test_witness_TrackReadsReturnTheEntry :
    7 < (8 : Byte).toNat ∧ ((7 : Byte).toNat ≤ 7 ∧ (holding (fullTable.take 7)).table.length ≤ (7 : Byte).toNat) ∧
    (holding fullTable).table[(7 : Byte).toNat]? = some (announced 8) ∧ (∀ e ∈ (holding fullTable).table, e.tag ≠ 9) ∧
    (holding fullTable).Oldest (fun e => e.tag = 8) 7 (announced 8) ∧ inStand.biteStamp = some 120000 := by decide +kernel
theorem test_witness_UpstreamBiteMakesTheEntryApproach :
    (running.isUpstream 6 = false ∧ running.isDownstream 6 = false) ∧ running.isUpstream 2 = true ∧ running.Unknown 101 ∧
    ((holding [approaching]).Names 101 0 approaching ∧ approaching.phase ≠ .announced) ∧
    ((holding [announced 1, announced 2]).Names 2 1 (announced 2) ∧ (announced 2).phase = .announced) := by decide +kernel

/-- An entry of piece 101 with this downstream status. -/
def withStatus (d : Downstream) : Entry := { confirmed with downstream := d }

theorem test_witness_DownstreamBiteIsMatchedInOrder :
    (running.isUpstream 4 = false ∧ running.isDownstream 4 = true) ∧
    ((holding [inStand]).Names 101 0 inStand ∧ inStand.awaits) ∧
    ((holding [withStatus .lost]).Names 101 0 (withStatus .lost) ∧ (withStatus .lost).downstream = .lost) ∧
    ((holding [confirmed]).Names 101 0 confirmed ∧ confirmed.downstream = .confirmed) ∧
    ((holding [inStand]).Unknown 0 ∧ (holding [announced 5, inStand]).Names 5 0 (announced 5) ∧ (announced 5).downstream = .noHead) ∧
    (holding [announced 5, inStand]).Oldest Entry.awaits 1 inStand ∧ (∀ e ∈ (holding [announced 5]).table, ¬ e.awaits) := by
  repeat' first | decide +kernel | constructor
theorem test_witness_ConfirmationReachesLooperAndTrim :
    (rolling [confirmed] 0).InStandIs 0 confirmed ∧ ¬ entryStation.Trims stand3 ∧ running.Trims stand3 ∧
    ((rolling [confirmed] 0).looper.state = .parked ∧ confirmed.window.isSome = true ∧ namelessEntry.window = none ∧
      (rolling [namelessEntry] 0).InStandIs 0 namelessEntry) ∧
    (regulating.trim.state ≠ .off ∧ running.trim.state = .off) ∧
    (confirmed.window = some ⟨piece101.passes[1]?, piece101.passes[2]?, piece101.passes[3]?⟩ ∧ confirmed.flags.tagMismatch = false ∧
      confirmed.verification ≠ .suspect ∧ confirmed.flags.trimFaultHeld = false ∧ 100 ≤ (100 : Half).toNat ∧ (99 : Half).toNat < 100) := by
  decide +kernel
theorem test_witness_UpstreamTailIsTakenOrAttributed :
    running.isUpstream 2 = true ∧
    ((rolling [confirmed] 173500).InStandIs 0 confirmed ∧ confirmed.phase = .inStand ∧ confirmed.tag = 101 ∧
      (rolling [confirmed] 173500).Unknown 0 ∧ ¬ (rolling [confirmed] 173500).Unknown 101) ∧
    ((holding [approaching]).Names 101 0 approaching ∧ approaching.flags.tailSeen = false ∧
      (∀ e ∈ (holding [approaching]).table, e.phase ≠ .inStand ∧ e.phase ≠ .tailApproaching)) ∧
    ((holding [announced 1, announced 2]).Names 2 1 (announced 2)) ∧ (holding [cleared]).Names 101 0 cleared ∧
    (∀ e ∈ (holding [cleared]).table, e.phase ≠ .approaching) ∧
    ((holding [cleared, approaching]).Oldest (fun e => e.phase = .approaching) 1 approaching ∧ (holding [cleared, approaching]).Unknown 9) := by
  repeat' first | decide +kernel | constructor
theorem test_witness_DownstreamTailRetiresAClearedEntry :
    (running.isUpstream 4 = false ∧ running.isDownstream 4 = true ∧ running.isDownstream 6 = false) ∧
    (holding [cleared]).Names 101 0 cleared ∧ ((holding [cleared]).Unknown 9 ∧ (holding [cleared]).Oldest (fun e => e.phase = .cleared) 0 cleared) ∧
    ((holding [approaching]).Names 101 0 approaching ∧ approaching.phase ≠ .cleared) ∧
    ((holding [approaching]).Unknown 9 ∧ ∀ e ∈ (holding [approaching]).table, e.phase ≠ .cleared) := by decide +kernel
theorem test_witness_SpeedReportRetargetsOrHoldsTheTrim :
    regulating.Trims stand3 ∧ regulating.TrimHears 4 101 0 confirmed ∧ regulating.TrimHears 4 0 0 confirmed ∧
    confirmed.window = some ⟨piece101.passes[1]?, piece101.passes[2]?, piece101.passes[3]?⟩ ∧
    (regulating.trim.state = .tracking ∧ 100 ≤ (100 : Half).toNat ∧ (99 : Half).toNat < 100) ∧
    (¬ entryStation.Trims stand3 ∧ running.isDownstream 2 = false ∧ regulating.InStandIs 0 confirmed ∧
      (102 : Half) ≠ confirmed.tag ∧ (102 : Half) ≠ 0) := by
  repeat' first | decide +kernel | constructor
theorem test_witness_HandoffFaultHoldsTheTrim :
    regulating.TrimHears 4 101 0 confirmed ∧ regulating.trim.state = .tracking ∧ regulating.Trims stand3 ∧
    ({ entryStation with table := [confirmed] } : State).TrimHears 1 101 0 confirmed ∧ ¬ entryStation.Trims stand3 ∧
    (rolling [confirmed] 0).TrimHears 4 0 0 confirmed ∧ (rolling [confirmed] 0).trim.state ≠ .tracking ∧
    (∀ e ∈ (holding [cleared]).table, e.phase ≠ .inStand ∧ e.phase ≠ .tailApproaching) ∧ running.isDownstream 2 = false ∧
    (regulating.InStandIs 0 confirmed ∧ (102 : Half) ≠ confirmed.tag ∧ (102 : Half) ≠ 0) := by
  repeat' first | decide +kernel | constructor
theorem test_witness_MatchingSpeedIsTheRoundedQuotient : 0 < 3100 ∧ matchingSpeed 1 1 0 2 0 = 1 := by decide +kernel
theorem test_witness_TrainStopStopsARunningStation :
    (1 ≤ (7 : Byte).toNat ∧ (7 : Byte).toNat ≤ 7 ∧ stand3.stopThreshold.toNat ≤ (4 : Byte).toNat) ∧ 7 < (8 : Byte).toNat ∧
    (3 : Byte).toNat < stand3.stopThreshold.toNat ∧ stopped.station.state ≠ .running ∧ linking.station.state ≠ .stopped ∧
    running.host.softResetDue = false ∧ running.station.state = .running ∧ stopped.station.state = .stopped := by decide +kernel
theorem test_witness_ResumeNeedsAnUnloadedDetector :
    (stopped.station.state = .stopped ∧ stopped.detector.state = .unloaded) ∧
    ({ stopped with detector := { state := .loaded, verify := .idle } } : State).detector.state ≠ .unloaded ∧
    running.station.state ≠ .stopped ∧ stopped.host.softResetDue = false ∧ linking.station.state ≠ .running := by decide +kernel

/-- The bus unit with this many TRAIN_STOPs and HANDOFF_FAULTs queued. -/
def queuing (stops faults : Nat) : State :=
  { running with bus := { running.bus with
    stopQueue := List.replicate stops ⟨.trainStop 4 0, 0, none⟩, eventQueue := List.replicate faults ⟨.handoffFault 1 1, 0, none⟩ } }

theorem test_witness_QueuingATelegramFollowsItsClass :
    silent.bus.state = .silent ∧ (stationIn .faulted .seek 0).station.state = .faulted ∧
    (running.bus.state = .active ∧ running.station.state ≠ .faulted) ∧
    (Telegram.trainResume.cls = .stop ∧ (queuing 1 7).bus.stopQueue.length < 2 ∧ 2 ≤ (queuing 2 8).bus.stopQueue.length) ∧
    ((Telegram.tailOut 1 false).cls = .event ∧ (queuing 1 7).bus.eventQueue.length < 8 ∧ 8 ≤ (queuing 2 8).bus.eventQueue.length) ∧
    (Telegram.speedReport 1 1).cls = .report ∧ (Telegram.announce ⟨true, 1, 1, true, 5, 0, 0, 0⟩).cls = .link := by decide +kernel
theorem test_witness_AttemptBeginsAtTheDeferral :
    sending.bus.Heads .stop ⟨.trainStop 4 1, 0, none⟩ [] ∧
    (after .attemptFail (after (.attemptBegin 7) sending)).bus.Heads .stop ⟨.trainStop 4 1, 1, some 0⟩ [] ∧
    (sending.bus.state = .active ∧ sending.bus.attempt = none ∧ sending.station.position.toNat ≤ 9 ∧ sending.bus.line = .busy ∧
      (after .attemptFail (after (.attemptBegin 7) sending)).bus.line = .lost ∧ (after (.attemptBegin 7) sending).bus.attempt ≠ none) ∧
    ((sending.withLine (.idle 6)).bus.Heads .stop ⟨.trainStop 4 1, 0, none⟩ [] ∧ (sending.withLine (.idle 6)).bus.line = .idle 6 ∧
      (7 : Fin 44).val = (if (6 : Fin 44).val = 43 then 0 else (6 : Fin 44).val + 1) ∧
      (0 : Fin 44).val = (if (43 : Fin 44).val = 43 then 0 else (43 : Fin 44).val + 1) ∧
      (7 : Fin 44).val = 4 + 10 * TxClass.stop.number + sending.station.position.toNat ∧
      (8 : Fin 44).val ≠ 4 + 10 * TxClass.stop.number + sending.station.position.toNat) ∧
    (running.bus.queue .stop = [] ∧ running.bus.queue .event = [] ∧ running.bus.queue .report = [] ∧ running.bus.queue .link = []) := by
  repeat' first | decide +kernel | constructor | (intro cls; cases cls <;> decide)
theorem test_witness_AttemptEndsInSuccessOrFailure :
    (after (.attemptBegin 7) sending).bus.attempt = some ⟨.trainStop 4 1, 0, .stop, true⟩ ∧
    (after (.attemptBegin 7) sending).bus.queue .stop = ⟨.trainStop 4 1, 0, some 0⟩ :: [] ∧
    (2 + 1 < 4 ∧ 4 ≤ 3 + 1) ∧ exec .attemptFail (after (.attemptBegin 7) sending) = .next (after .attemptFail (after (.attemptBegin 7) sending)) ∧
    ((after (.speedReportReceived 4 0 101 1) running).bus.attempt = none) ∧
    ((((running.queueTelegram (.speedReport 1 1)).bus.begin .report ⟨.speedReport 1 1, 0, none⟩).attempt.map Attempt.queued) = some true) ∧
    (let s : State := { running with bus := { running.bus with
       stopQueue := [⟨.trainStop 4 1, 3, some 0⟩], attempt := some ⟨.trainStop 4 1, 0, .stop, true⟩, failures := 15 } }
     s.bus.attempt = some ⟨.trainStop 4 1, 0, .stop, true⟩ ∧ s.bus.queue .stop = ⟨.trainStop 4 1, 3, some 0⟩ :: [] ∧ 4 ≤ 3 + 1) ∧
    (let s : State := { running with bus := { running.bus with attempt := some ⟨.speedReport 1 1, 0, .report, false⟩ } }
     (s.bus.attempt.map Attempt.queued) = some false) := by
  refine ⟨by decide +kernel, by decide +kernel, by decide, rfl, by decide +kernel⟩

/-- The host port with this many events of this kind. -/
def queueOf (n : Nat) (kind : EventKind) : HostPort :=
  { HostPort.reset with events := List.replicate n { kind := kind, tag := 0, detail := 0, stamp := 0 } }

theorem test_witness_EventQueueGivesUpTheLeastUrgentEvent :
    (queueOf 31 .linked).events.length < 32 ∧
    (32 ≤ (queueOf 32 .ownBite).events.length ∧ ∀ q ∈ (queueOf 32 .ownBite).events, q.kind.cls ≤ EventKind.seqGap.cls) ∧
    ((queueOf 32 .seqGap).events[31]? = some ⟨.seqGap, 0, 0, 0⟩ ∧ EventKind.linked.cls < EventKind.seqGap.cls ∧
      (∀ q ∈ (queueOf 32 .seqGap).events, q.kind.cls ≤ EventKind.seqGap.cls) ∧ (queueOf 32 .seqGap).events.length ≤ 32) := by
  decide +kernel
theorem test_witness_HostReadsEventsAndClearsFlags :
    running.host.softResetDue = false ∧ running.host.events = [] ∧
    (running.raise .linked 0 0).host.events = ⟨.linked, 0, 0, 0⟩ :: [] ∧
    (after (.eventRead []) (running.raise .linked 0 0)).host.reading = .head ∧ running.host.reading = .idle ∧
    256 ≤ (256 : Half).toNat ∧ (255 : Half).toNat < 256 ∧ afterReset.station.config = none ∧ running.station.config = some stand3 := by
  decide +kernel
theorem test_witness_StatusAndCountersAreRead : running.host.softResetDue = false ∧
    (after (.trainResumeReceived 3 0) running).station.fault = some (.duplicatePosition, 3) ∧ running.station.fault = none := by
  decide +kernel
theorem test_witness_TransactionsCarryCommands :
    (List.replicate 255 (0 : Byte)).length < 256 ∧ ([0] : List Byte).length < (2 : Byte).toNat ∧ hostCommands[16]? = some .softReset ∧
    (0 : Byte).toNat = 0 ∧ 17 < (18 : Byte).toNat ∧ running.host.softResetDue = false ∧ ([] : List Byte).length ≠ 59 ∧
    (after (.softReset []) running).host.softResetDue = true ∧
    ((after (.trackRead [7]) running).host.response = some ⟨.notFound, [0]⟩ ∧ incompleteTransaction [9, 1] = true) ∧
    (List.replicate 7 true).length < 8 := by
  refine ⟨by decide +kernel, by decide, rfl, by decide, by decide, by decide +kernel, by decide, by decide +kernel, by decide +kernel, by decide⟩
theorem test_witness_RelinkAndReleaseEndTheirConditions :
    silent.bus.state = .silent ∧ running.bus.state = .active ∧ running.station.config = some stand3 ∧
    ¬ (linking.station.state = .running ∨ linking.station.state = .stopped) ∧ stopped.station.state = .stopped ∧
    ¬ entryStation.Trims stand3 ∧ running.Trims stand3 ∧ running.looper.state ≠ .holdOff ∧
    ({ running with looper := { Looper.reset with state := .holdOff, holdOffTimer := some 0 } } : State).looper.holdOffTimer = some 0 := by
  decide +kernel
theorem test_witness_LinkingTimersAnnounceAndComplain :
    linking.station.config = some stand3 ∧ linking.station.state = .linking ∧ running.station.state ≠ .linking ∧
    ({ linking with station := { linking.station with announceTimer := some 0, linkTimer := some 0 } } : State).station.linkTimer = some 0 ∧
    linking.station.announceTimer ≠ some 0 ∧ linking.station.linkTimer ≠ some 0 := by decide +kernel
theorem test_witness_SampleLossAndEncoderFaultAreSet :
    let s : State := { regulating with stand := { regulating.stand with
      sampleTimer := some 0, stallTimer := some 0, latest := some ⟨0, 0, 500, 0, 0, false⟩ } }
    s.station.config = some stand3 ∧ s.station.state = .running ∧ s.stand.sampleTimer = some 0 ∧ s.stand.sampleLoss = false ∧
    s.looper.state = .regulating ∧ running.looper.state = .parked ∧ running.stand.sampleTimer ≠ some 0 ∧
    s.stand.stallTimer = some 0 ∧ 500 ≤ (500 : Half).toNat ∧ (499 : Half).toNat < 500 ∧ s.stand.encoderStall = false := by decide +kernel
theorem test_witness_AgedEntryIsRemoved :
    let old : Entry := { cleared with age := 30000 }
    (holding [announced 1, old]).Oldest (fun e => ((e.phase = .announced ∧ e.origin = .bus) ∨ e.phase = .cleared) ∧
      1000 * stand3.ageLimit.toNat ≤ e.age) 1 old ∧
    (∀ e ∈ (holding [{ old with age := 29999 }]).table, ¬ (((e.phase = .announced ∧ e.origin = .bus) ∨ e.phase = .cleared) ∧
      1000 * stand3.ageLimit.toNat ≤ e.age)) := by decide +kernel
theorem test_witness_LooperAndTrimTimersExpire :
    let s : State := { regulating with
      stand := { regulating.stand with latest := some ⟨0, 0, 7640, 0, 0, false⟩ }
      trim := { regulating.trim with ageTimer := some 0, reportTimer := some 0 } }
    let l (st : LooperState) : Looper := { Looper.reset with
      state := st, liftTimer := some 0, settleTimer := some 0, lowerTimer := some 0 }
    s.station.config = some stand3 ∧ s.stand.latest = some ⟨0, 0, 7640, 0, 0, false⟩ ∧ running.stand.latest = none ∧
    ({ s with looper := l (.lifting .rise) } : State).looper.liftTimer = some 0 ∧
    ({ s with looper := l (.lifting .settle) } : State).looper.settleTimer = some 0 ∧
    ({ s with looper := l .lowering } : State).looper.lowerTimer = some 0 ∧
    s.trim.state = .tracking ∧ s.trim.ageTimer = some 0 ∧ s.role = .stand ∧ s.trim.reportTimer = some 0 ∧
    s.station.state = .running ∧ s.detector.state = .loaded ∧ running.detector.state ≠ .loaded := by decide +kernel
theorem test_witness_PulseMovesThePositionAndEvaluatesTheMarks :
    afterReset.station.config = none ∧ running.station.config = some stand3 ∧
    (∀ e ∈ (rolling [inStand] 125050).table, e.headDue 125050 = [] ∧ e.tailDue 125050 = []) := by decide +kernel
theorem test_witness_SampleIsTakenByTheBlocksInOrder :
    ([] : List Byte).length ≠ 12 ∧ ([1] : List Byte).head? ≠ some 0xA5 ∧
    (let bytes : List Byte := List.replicate 12 0;
      bytes.drop 10 ≠ bytes16 (crc16 (bytes.take 10))) ∧
    running.station.config = some stand3 ∧ running.station.state = .running ∧ stopped.station.state = .stopped ∧
    (afterReset.station.state = .configuring ∧ afterReset.station.config = none) ∧
    (linking.looper.state = .parked ∧ linking.trim.state = .off ∧ linking.station.state = .linking) := by decide +kernel
theorem test_witness_DetectorConfirmsByDistanceOrByCount :
    (stand3.fOn.toNat ≤ (4000 : Half).toNat ∧ ¬ stand3.fOn.toNat ≤ (3999 : Half).toNat ∧ (2499 : Half).toNat < stand3.fOff.toNat ∧
      ¬ (2500 : Half).toNat < stand3.fOff.toNat) ∧ running.role = .stand ∧ entryStation.role ≠ .stand ∧
    running.detector.state = .unloaded ∧ biting.detector.state = .onPending 120000 6 ∧
    (stand3.nOn.toNat ≤ distance 120040 120000 ∧ ¬ stand3.nOn.toNat ≤ distance 120039 120000) ∧ 4 ≤ 3 + 1 ∧ ¬ 4 ≤ 2 + 1 ∧
    (rolling [] 0).detector.state = .loaded ∧
    ({ rolling [] 0 with detector := { state := .offPending 0 1, verify := .idle } } : State).detector.state = .offPending 0 1 ∧
    running.station.state = .running ∧ stopped.station.state ≠ .running ∧
    (let x : Sample := ⟨23, 4000, 7630, 0, 0, false⟩
     biting.role = .stand ∧ stand3.fOn.toNat ≤ x.force.toNat ∧ stand3.nOn.toNat ≤ distance biting.stand.pulse 120000 ∧
      biting.station.state = .running) ∧
    (let s : State := { stopped with stand := { stopped.stand with encoderStall := true }, detector := { state := .offPending 0 3, verify := .idle } }
     s.role = .stand ∧ (0 : Half).toNat < stand3.fOff.toNat ∧ ¬ stand3.nOff.toNat ≤ distance s.stand.pulse 0 ∧
      s.stand.encoderStall = true ∧ 4 ≤ 3 + 1) := by decide +kernel
theorem test_witness_VerificationJudgesBothForces :
    let s : State := { rolling [confirmed] 120080 with detector := { state := .loaded, verify := .awaiting 14800 13500 16500 120000 } }
    running.detector.verify = .idle ∧ s.detector.verify = .awaiting 14800 13500 16500 120000 ∧
    distance 120079 120000 < 2 * stand3.nOn.toNat ∧ 2 * stand3.nOn.toNat ≤ distance s.stand.pulse 120000 ∧ s.InStandIs 0 confirmed ∧
    ¬ ((16500 : Half).toNat < 13500 ∨ 16500 < (16500 : Half).toNat) ∧ ((13499 : Half).toNat < 13500 ∨ 16500 < (13499 : Half).toNat) := by
  decide +kernel
theorem test_witness_BiteIsTakenByTheForemostPiece :
    (holding [cleared, approaching]).Oldest (fun e => e.phase = .approaching) 1 approaching ∧
    ((∀ e ∈ (holding [cleared, announced 1]).table, e.phase ≠ .approaching) ∧
      (holding [cleared, announced 1]).Oldest (fun e => e.phase = .announced) 1 (announced 1)) ∧
    (entryStation.station.position = 0 ∧ running.station.position ≠ 0) ∧
    (∀ e ∈ (holding [cleared]).table, e.phase ≠ .announced) ∧ (holding [cleared]).table.length < 8 ∧
    (8 ≤ (holding (List.replicate 8 { cleared with tag := 0 })).table.length ∧
      (holding (List.replicate 8 { cleared with tag := 0 })).Oldest (fun e => e.phase = .cleared) 0 { cleared with tag := 0 }) := by
  decide +kernel
theorem test_witness_TailOutLetsThePieceGo :
    (rolling [tailApproaching] 180556).InStandIs 0 tailApproaching ∧
    tailApproaching.tailMarks = some ⟨6403, 6792, 7214, false, false⟩ ∧ tailApproaching.tailStamp = some ⟨173500, false⟩ ∧
    distance 180291 173500 < 6792 ∧ 6792 ≤ distance 180292 173500 ∧ confirmed.tailMarks = none ∧
    (running.station.position.toNat ≤ 8 ∧ running.station.position.toNat < stand3.trainSize.toNat) ∧
    ¬ ((6 : BitVec 4) = 0 ∨ ((6 : BitVec 4).toNat ≤ 8 ∧ ((6 : BitVec 4).toNat < stand3.trainSize.toNat ∨ stand3.exitPresent = 1))) := by
  decide +kernel
theorem test_witness_DistanceIsTheSignedDifference :
    ((0x7FFFFFFF : Word) - 0).toNat < 2 ^ 31 ∧ 2 ^ 31 ≤ ((0x80000000 : Word) - 0).toNat ∧ 2 ^ 31 - 1 < 2 ^ 31 := by decide +kernel
theorem test_witness_MarksAreTheRoundedTravel :
    0 < stand3.upp.toNat ∧ 0 < 3100 ∧ 10000 ≤ (10000 : Word).toNat ∧ (8000000 : Word).toNat ≤ 8000000 ∧ 1000 ≤ (1000 : Half).toNat ∧
    (12000 : Half).toNat ≤ 12000 ∧ 5 ≤ (5 : Byte).toNat ∧ (200 : Byte).toNat ≤ 200 ∧ 150 ≤ 150 ∧
    (namelessEntry.window = none ∧ 9 ≤ (9 : BitVec 4).toNat ∧ confirmed.tailStamp = none ∧
      ({ tailApproaching with tailStamp := some ⟨173500, true⟩ } : Entry).tailStamp = some ⟨173500, true⟩) ∧
    ((announcedEntry stand3 0 .manual piece101).window = some ⟨none, none, piece101.passes[0]?⟩ ∧
      tailApproaching.window = some ⟨piece101.passes[1]?, piece101.passes[2]?, piece101.passes[3]?⟩ ∧
      (15000 : Half) ≠ 0 ∧ (piece101.passes[5]?.map PassEntry.expectedForce) = some 0) ∧
    (tailApproaching.tailStamp = some ⟨173500, false⟩ ∧ (8 : BitVec 4).toNat ≤ 8 ∧ 2 ≤ (2 : BitVec 4).toNat ∧
      tailApproaching.barThickness = some 32000) := by decide +kernel
/-- R13: at an arm lead of 0 the arm point coincides with window low and is reported first. -/
theorem test_arm_point_before_window_low :
    inReportOrder ((headMarksOf { stand3 with armLead := 0 } 45).due 4754) = [.armPoint, .windowLow] := by decide +kernel
theorem test_witness_ReachedMarksAreReportedInOrder :
    (tailApproaching.tailMarks = some ⟨6403, 6792, 7214, false, false⟩ ∧ tailApproaching.tailStamp = some ⟨173500, false⟩ ∧
      inStand.headMarks = some ⟨4354, 4754, 5050, true, true, false⟩ ∧ inStand.biteStamp = some 120000) ∧
    (cleared.headMarks = none ∧ approaching.biteStamp = none ∧ inStand.tailMarks = none) ∧
    (rolling [inStand] 125051).table.length ≤ 8 := by decide +kernel
theorem test_witness_ReportOfAMarkActsAsTabled :
    (rolling [inStand] 125051).table[0]? = some inStand ∧ (withStatus .pending).downstream = .pending ∧ inStand.downstream ≠ .pending ∧
    inStand.downstream = .inWindow ∧ inStand.flags.downstreamGap = false ∧ confirmed.downstream ≠ .inWindow ∧
    ({ inStand with flags := { inStand.flags with downstreamGap := true } } : Entry).flags.downstreamGap = true := by decide +kernel
theorem test_witness_SampleMovesTheLooper :
    running.Trims stand3 ∧ ((179 : Half).toNat < stand3.workingAngle.toNat ∧ stand3.workingAngle.toNat ≤ (180 : Half).toNat ∧
      stand3.settleTime ≠ 0) ∧
    (regulating.looper.state = .regulating ∧ regulating.inStand? = some confirmed ∧
      confirmed.ownPass = some ⟨3100, 45, 7640, 15000, 120⟩ ∧ (120 : Half) ≠ 0) ∧
    (max 129 120 - min 129 120 ≤ 120 * stand3.tensionBand.toNat / 1000 ∧ 120 * stand3.tensionBand.toNat / 1000 < max 130 120 - min 130 120 ∧
      463 + 16 < stand3.tensionLimit.toNat ∧ stand3.tensionLimit.toNat ≤ 464 + 16) ∧
    (stand3.parkAngle.toNat < (41 : Half).toNat ∧ (40 : Half).toNat ≤ stand3.parkAngle.toNat) ∧
    (rolling [confirmed] 0).inStand? = some confirmed ∧ confirmed.downstream = .confirmed ∧ inStand.awaits ∧ running.inStand? = none ∧
    (let s : State := { rolling [confirmed] 0 with looper := { Looper.reset with state := .lowering, lowerTimer := some 1, liftPending := true } }
     s.Trims stand3 ∧ s.looper.state = .lowering ∧ s.inStand? = some confirmed ∧ s.looper.liftPending = true) ∧
    (let s : State := { rolling [inStand] 0 with looper := { Looper.reset with state := .lowering, lowerTimer := some 1, armPending := true } }
     s.Trims stand3 ∧ s.looper.state = .lowering ∧ s.inStand? = some inStand ∧ s.looper.armPending = true) ∧
    (let s : State := { rolling [confirmed] 0 with looper := { Looper.reset with state := .lifting .rise, liftTimer := some 1 } }
     s.Trims stand3 ∧ s.looper.state = .lifting .rise) := by
  decide +kernel
theorem test_witness_SampleStepsTheTrim :
    running.trim.state = .off ∧ regulating.trim.state = .tracking ∧ (0 : Int) < stand3.trimStep.toNat ∧
    ((25 : Int) - 0 ≤ stand3.trimStep.toNat ∧ (stand3.trimStep.toNat : Int) < 26 - 0 ∧ (stand3.trimStep.toNat : Int) < 0 - (-26)) ∧
    (let s : State := { regulating with trim := { regulating.trim with state := .rampOut, target := 0, current := -26 } }
     s.trim.state = .rampOut ∧ s.trim.target = 0 ∧ (stand3.trimStep.toNat : Int) < s.trim.target - s.trim.current) := by
  decide +kernel

/-- The regulating station is safe, and a step leads on from it. -/
theorem test_witness_EveryStepKeepsTheBusUnitSafe :
    regulating.BusSafe ∧ regulating.EventsSafe ∧ step regulating = .next (regulating.tick) := by
  repeat' first | decide +kernel | constructor
theorem test_witness_EveryStepKeepsTheHandOffSafe :
    regulating.HandoffSafe ∧ step { regulating with pending := [.trainResume []] } = .next (after (.trainResume []) regulating) := by
  repeat' first | decide +kernel | constructor

end Sys2Proof.Tests
end

/-! The checks of a piece record, its pass window and the distance (01 R3, R6, R11). -/

namespace Sys2Proof.Proofs

open Sys2Proof.Machine

/-! ### Distances (R11) -/

/-- R11: a difference with the sign bit clear is the distance. -/
theorem distance_of_lt {position stamp : Word} (h : (position - stamp).toNat < 2 ^ 31) :
    distance position stamp = (position - stamp).toNat := by
  have hpos : (position - stamp).msb = false := BitVec.msb_eq_false_iff_two_mul_lt.2 (by omega)
  simp [distance, hpos]

/-- R11: a negative difference is taken as 0. -/
theorem distance_of_ge {position stamp : Word} (h : 2 ^ 31 ≤ (position - stamp).toNat) :
    distance position stamp = 0 := by
  have hneg : (position - stamp).msb = true := BitVec.msb_eq_true_iff_two_mul_ge.2 (by omega)
  simp [distance, hneg]

/-- Settles O52: the two signs of the difference, and a travel below 2^31 that may have wrapped. -/
theorem distanceIsTheSignedDifference : Obligations.DistanceIsTheSignedDifference := by
  intro position stamp
  refine ⟨distance_of_lt, distance_of_ge, fun d hd => ?_⟩
  have travelled : (stamp + BitVec.ofNat 32 d - stamp).toNat = d := by
    rw [BitVec.add_comm, BitVec.add_sub_cancel, BitVec.toNat_ofNat]; omega
  rw [distance_of_lt (by omega), travelled]

/-! ### The checks of one pass (Table 1.3, checks 4 to 9) -/

/-- Pass i of N fails this check of Table 1.3, its piece entering the stand at thickness `before`. -/
def passFails (n i before : Nat) (p : PassEntry) (check : Nat) : Prop :=
  (check = 4 ∧ (p.exitThickness.toNat < 500 ∨ 40000 < p.exitThickness.toNat)) ∨
  (check = 5 ∧ before < p.exitThickness.toNat) ∨
  (check = 6 ∧ 150 < p.forwardSlip.toNat) ∨
  (check = 7 ∧ (p.speedRef.toNat < 300 ∨ 25000 < p.speedRef.toNat)) ∨
  (check = 8 ∧ 60000 < p.expectedForce.toNat) ∨
  (check = 9 ∧ (i < n ∧ (p.tensionRef.toNat = 0 ∨ 2000 < p.tensionRef.toNat) ∨ n ≤ i ∧ p.tensionRef.toNat ≠ 0))

/-- An absent field is 0 (R2). -/
theorem half_eq_zero_iff (h : Half) : h = 0 ↔ h.toNat = 0 :=
  BitVec.toNat_inj.symm

theorem within_iff (x lo hi : Nat) : within x lo hi = true ↔ lo ≤ x ∧ x ≤ hi := by
  simp [within]

/-- The check named is one that fails, and the first one. -/
theorem passFails_of_checkPass {n i before : Nat} {p : PassEntry} {k : Nat} (h : checkPass n i before p = some k) :
    passFails n i before p k ∧ ∀ j < k, ¬ passFails n i before p j := by
  simp only [checkPass, Bool.ite_eq_true_distrib, decide_eq_true_eq, within_iff, half_eq_zero_iff, ite_prop_iff_or] at h
  unfold passFails
  split_ifs at h <;> cases h <;> exact ⟨by omega, fun j hj => by omega⟩

/-- Where no check is named, none fails. -/
theorem not_passFails_of_checkPass {n i before : Nat} {p : PassEntry} (h : checkPass n i before p = none) (k : Nat) :
    ¬ passFails n i before p k := by
  simp only [checkPass, Bool.ite_eq_true_distrib, decide_eq_true_eq, within_iff, half_eq_zero_iff, ite_prop_iff_or] at h
  unfold passFails
  split_ifs at h
  omega

/-! ### The checks of the passes in order -/

/-- The thickness at which the piece enters the stand of the pass at index m: that of the bar, or the exit thickness of the pass
before. -/
def entryThickness (bar : Nat) : List PassEntry → Nat → Nat
  | p :: rest, m + 1 => entryThickness p.exitThickness.toNat rest m
  | _, _ => bar

/-- The pass at index m, counted as pass i + m, fails this check. -/
def passAtFails (n i bar : Nat) (passes : List PassEntry) (m check : Nat) : Prop :=
  ∃ p ∈ passes[m]?, passFails n (i + m) (entryThickness bar passes m) p check

@[simp] theorem passAtFails_nil (n i bar m k : Nat) : ¬ passAtFails n i bar [] m k := by
  simp [passAtFails]

@[simp] theorem passAtFails_cons_zero (n i bar : Nat) (p : PassEntry) (rest : List PassEntry) (k : Nat) :
    passAtFails n i bar (p :: rest) 0 k ↔ passFails n i bar p k := by
  simp [passAtFails, entryThickness]

@[simp] theorem passAtFails_cons_succ (n i bar : Nat) (p : PassEntry) (rest : List PassEntry) (m k : Nat) :
    passAtFails n i bar (p :: rest) (m + 1) k ↔ passAtFails n (i + 1) p.exitThickness.toNat rest m k := by
  simp [passAtFails, entryThickness, Nat.add_assoc, Nat.add_comm 1 m]

/-- Where the passes are found valid, none fails any check. -/
theorem not_passAtFails_of_checkPasses {n i bar : Nat} {passes : List PassEntry} (h : checkPasses n i bar passes = none)
    (m k : Nat) : ¬ passAtFails n i bar passes m k := by
  induction passes generalizing i bar m with
  | nil => simp
  | cons p rest ih =>
    unfold checkPasses at h
    split at h
    · cases h
    · rename_i hp
      cases m with
      | zero => simpa using not_passFails_of_checkPass hp k
      | succ m => simpa using ih h m

/-- The failure named is the first: no earlier check fails in its pass, and none in any earlier pass. -/
theorem passAtFails_of_checkPasses {n i bar : Nat} {passes : List PassEntry} {f : RecordFailure}
    (h : checkPasses n i bar passes = some f) :
    ∃ m, f.pass = i + m ∧ passAtFails n i bar passes m f.check ∧ (∀ j < f.check, ¬ passAtFails n i bar passes m j) ∧
      ∀ l < m, ∀ j, ¬ passAtFails n i bar passes l j := by
  induction passes generalizing i bar with
  | nil => cases h
  | cons p rest ih =>
    unfold checkPasses at h
    split at h
    · rename_i check hp
      cases h
      obtain ⟨hfails, hfirst⟩ := passFails_of_checkPass hp
      exact ⟨0, rfl, by simpa using hfails, by simpa using hfirst, fun l hl => absurd hl (Nat.not_lt_zero l)⟩
    · rename_i hp
      obtain ⟨m, hpass, hfails, hfirst, hearlier⟩ := ih h
      refine ⟨m + 1, by omega, by simpa using hfails, by simpa using hfirst, fun l hl j => ?_⟩
      cases l with
      | zero => simpa using not_passFails_of_checkPass hp j
      | succ l => simpa using hearlier l (by omega) j

/-! ### The checks of a piece record (R3) -/

theorem entryThickness_zero (bar : Nat) (passes : List PassEntry) : entryThickness bar passes 0 = bar := by
  cases passes <;> rfl

/-- After pass m the piece has that pass's exit thickness. -/
theorem entryThickness_succ {bar : Nat} {passes : List PassEntry} {m : Nat} {p : PassEntry} (h : passes[m]? = some p) :
    entryThickness bar passes (m + 1) = p.exitThickness.toNat := by
  induction passes generalizing bar m with
  | nil => cases h
  | cons q rest ih =>
    cases m with
    | zero => cases h; exact entryThickness_zero _ _
    | succ m => exact ih h

theorem failsIn_zero (r : PieceRecord) (n k : Nat) : ¬ r.failsIn n 0 k := by
  simp [PieceRecord.failsIn]

/-- A check fails in a pass that the record has. -/
theorem pass_range_of_failsIn {r : PieceRecord} {n i k : Nat} (h : r.failsIn n i k) : 1 ≤ i ∧ i ≤ r.passes.length := by
  obtain ⟨p, hp, hi, -⟩ := h
  obtain ⟨hlt, -⟩ := List.getElem?_eq_some_iff.1 hp
  omega

/-- Check 5 compares a pass with the one before it, pass 1 with the bar. -/
theorem thicker_iff_entryThickness_lt (r : PieceRecord) {m : Nat} {p : PassEntry} (h : r.passes[m]? = some p) :
    (if m + 1 = 1 then r.barThickness < p.exitThickness
      else ∃ before ∈ r.passes[m + 1 - 2]?, before.exitThickness < p.exitThickness) ↔
    entryThickness r.barThickness.toNat r.passes m < p.exitThickness.toNat := by
  cases m with
  | zero => simp [entryThickness_zero, BitVec.lt_def]
  | succ m =>
    obtain ⟨hm, -⟩ := List.getElem?_eq_some_iff.1 h
    have hb : r.passes[m]? = some r.passes[m] := List.getElem?_eq_getElem (by omega)
    simp [hb, entryThickness_succ hb, BitVec.lt_def]

/-- Pass m + 1 of a record fails a check as the pass at index m of its pass list does. -/
theorem failsIn_succ_iff (r : PieceRecord) (n m k : Nat) :
    r.failsIn n (m + 1) k ↔ passAtFails n 1 r.barThickness.toNat r.passes m k := by
  have hi : 1 ≤ m + 1 := by omega
  simp only [PieceRecord.failsIn, passAtFails, Nat.add_sub_cancel]
  refine exists_congr fun p => and_congr_right fun hp => ?_
  have tension : (if m + 1 < n then p.tensionRef = 0 ∨ 2000 < p.tensionRef.toNat else p.tensionRef ≠ 0) ↔
      1 + m < n ∧ (p.tensionRef.toNat = 0 ∨ 2000 < p.tensionRef.toNat) ∨ n ≤ 1 + m ∧ p.tensionRef.toNat ≠ 0 := by
    simp only [ne_eq, half_eq_zero_iff]
    split <;> omega
  rw [thicker_iff_entryThickness_lt r hp, tension]
  simp only [passFails, hi, true_and]

/-- With checks 1 to 3 met, a record is checked pass by pass. -/
theorem checkRecord_eq_checkPasses {n : Nat} {r : PieceRecord} (htag : r.tag ≠ 0) (hcount : r.passes.length = n)
    (hlo : 8000 ≤ r.barThickness.toNat) (hhi : r.barThickness.toNat ≤ 60000) :
    checkRecord n r = checkPasses n 1 r.barThickness.toNat r.passes := by
  have hbar := (within_iff _ _ _).2 ⟨hlo, hhi⟩
  rw [checkRecord, if_neg htag, if_neg (not_not.2 hcount), if_neg (not_not.2 hbar)]

/-- A failure among the passes is the record's first, in the order of R3. -/
def FirstFailure (r : PieceRecord) (n k i : Nat) : Prop :=
  r.failsIn n i k ∧ (∀ j, j < k → ¬ r.failsIn n i j) ∧ ∀ h, h < i → ∀ j, ¬ r.failsIn n h j

/-- There is at most one first failure. -/
theorem FirstFailure.unique {r : PieceRecord} {n k i k' i' : Nat} (h : FirstFailure r n k i) (h' : FirstFailure r n k' i') :
    k = k' ∧ i = i' := by
  obtain ⟨hfails, hfirst, hearlier⟩ := h
  obtain ⟨hfails', hfirst', hearlier'⟩ := h'
  obtain rfl : i = i' := Nat.le_antisymm
    (Nat.le_of_not_lt fun hl => hearlier _ hl _ hfails') (Nat.le_of_not_lt fun hl => hearlier' _ hl _ hfails)
  exact ⟨Nat.le_antisymm
    (Nat.le_of_not_lt fun hl => hfirst _ hl hfails') (Nat.le_of_not_lt fun hl => hfirst' _ hl hfails), rfl⟩

theorem firstFailure_of_checkPasses {n : Nat} {r : PieceRecord} {f : RecordFailure}
    (h : checkPasses n 1 r.barThickness.toNat r.passes = some f) : FirstFailure r n f.check f.pass := by
  obtain ⟨m, hpass, hfails, hfirst, hearlier⟩ := passAtFails_of_checkPasses h
  rw [hpass, Nat.add_comm]
  refine ⟨(failsIn_succ_iff ..).2 hfails, fun j hj => (failsIn_succ_iff ..).not.2 (hfirst j hj), fun l hl j => ?_⟩
  cases l with
  | zero => exact failsIn_zero r n j
  | succ l => exact (failsIn_succ_iff ..).not.2 (hearlier l (by omega) j)

theorem not_failsIn_of_checkPasses {n : Nat} {r : PieceRecord}
    (h : checkPasses n 1 r.barThickness.toNat r.passes = none) (i k : Nat) : ¬ r.failsIn n i k := by
  cases i with
  | zero => exact failsIn_zero r n k
  | succ m => exact (failsIn_succ_iff ..).not.2 (not_passAtFails_of_checkPasses h m k)

/-- The passes are checked up to the first failure, and that one is named. -/
theorem checkPasses_eq_some_iff (n : Nat) (r : PieceRecord) (k i : Nat) :
    checkPasses n 1 r.barThickness.toNat r.passes = some { check := k, pass := i } ↔ FirstFailure r n k i := by
  refine ⟨firstFailure_of_checkPasses, fun hfirst => ?_⟩
  cases h : checkPasses n 1 r.barThickness.toNat r.passes with
  | none => exact absurd hfirst.1 (not_failsIn_of_checkPasses h i k)
  | some f =>
    obtain ⟨rfl, rfl⟩ := hfirst.unique (firstFailure_of_checkPasses h)
    rfl

/-- The passes are valid exactly when none of the n fails any check. -/
theorem checkPasses_eq_none_iff {n : Nat} {r : PieceRecord} (hcount : r.passes.length = n) :
    checkPasses n 1 r.barThickness.toNat r.passes = none ↔ ∀ i, 1 ≤ i → i ≤ n → ∀ k, ¬ r.failsIn n i k := by
  refine ⟨fun h i _ _ k => not_failsIn_of_checkPasses h i k, fun hvalid => ?_⟩
  cases h : checkPasses n 1 r.barThickness.toNat r.passes with
  | none => rfl
  | some f =>
    obtain ⟨hfails, -⟩ := firstFailure_of_checkPasses h
    obtain ⟨hlo, hhi⟩ := pass_range_of_failsIn hfails
    exact absurd hfails (hvalid f.pass hlo (hcount ▸ hhi) f.check)

/-! ### The pass window (Table 1.4) -/

/-- The window of STAND k. -/
theorem passWindow_stand (c : ConfigRecord) (k : BitVec 4) (r : PieceRecord) (h1 : 1 ≤ k.toNat) (h8 : k.toNat ≤ 8) :
    passWindow c k r =
      { up := if k.toNat = 1 then none else r.passes[k.toNat - 2]?, own := r.passes[k.toNat - 1]?
        down := if k.toNat < c.trainSize.toNat then r.passes[k.toNat]? else none } := by
  rw [passWindow, (Laws.roleOf_stand k).2 ⟨h1, h8⟩]
  rfl

theorem passWindow_entry (c : ConfigRecord) (r : PieceRecord) :
    passWindow c 0 r = { up := none, own := none, down := r.passes.head? } := by
  rw [List.head?_eq_getElem?]
  rfl

theorem passWindow_exit (c : ConfigRecord) (r : PieceRecord) (hcount : r.passes.length = c.trainSize.toNat) :
    passWindow c 9 r = { up := r.passes.getLast?, own := none, down := none } := by
  rw [List.getLast?_eq_getElem?, hcount]
  rfl

/-- Settles O17: the checks on the record one by one, the passes by their first failure, and the window role by role. -/
theorem pieceRecordIsCheckedInOrderAndWindowed : Obligations.PieceRecordIsCheckedInOrderAndWindowed := by
  refine ⟨fun n r => ⟨fun htag => ?_, fun htag hcount => ?_, fun htag hcount hbar => ?_, fun htag hcount hlo hhi => ?_⟩,
    fun c r hcount h1 h8 => ⟨passWindow_entry c r, passWindow_exit c r hcount, fun k hk1 hkn => ?_⟩⟩
  · rw [checkRecord, if_pos htag]
  · rw [checkRecord, if_neg htag, if_pos hcount]
  · have hout : ¬ within r.barThickness.toNat 8000 60000 = true := by rw [within_iff]; omega
    rw [checkRecord, if_neg htag, if_neg (not_not.2 hcount), if_pos hout]
  · rw [checkRecord_eq_checkPasses htag hcount hlo hhi]
    exact ⟨checkPasses_eq_none_iff hcount, checkPasses_eq_some_iff n r⟩
  · have present (m : Nat) (hm : m < c.trainSize.toNat) : r.passes[m]?.isSome = true := by
      simpa [hcount] using hm
    rw [passWindow_stand c k r hk1 (by omega)]
    refine ⟨rfl, present _ (by omega), ?_, fun hk2 => ?_, fun hlt => ?_, fun heq => if_neg (by omega)⟩
    · rintro rfl
      rfl
    · have hk : ¬ k.toNat = 1 := by omega
      simp only [if_neg hk]
      exact ⟨trivial, present _ (by omega)⟩
    · simp only [if_pos hlt]
      exact ⟨trivial, present _ hlt⟩

end Sys2Proof.Proofs

/-! CONFIG_WRITE and the four tests of START (02 R17, R18). -/

namespace Sys2Proof.Proofs

open Sys2Proof.Machine

/-! ### Answering a host command (R168) -/

@[simp] theorem opened_station (s : State) : s.opened.station = s.station := rfl

@[simp] theorem opened_role (s : State) : s.opened.role = s.role := rfl

@[simp] theorem opened_respond (s : State) (status : Status) (data : List Byte) :
    s.opened.respond status data = s.answered status data := rfl

@[simp] theorem opened_refuse (s : State) (status : Status) : s.opened.refuse status = s.answered status [] := rfl

/-- A command of the right length is taken in the state that has begun its transaction. -/
theorem command_of_lengthOk {s : State} (h : s.host.softResetDue = false) {ok : Bool} (hok : ok = true) (take : State → State) :
    s.command ok take = take s.opened := by
  rw [Laws.command_eq, if_pos hok, Laws.openTransaction_eq s h]
  rfl

/-- A command of a wrong length is refused with BAD_LENGTH, whatever it would do. -/
theorem command_of_badLength {s : State} (h : s.host.softResetDue = false) {ok : Bool} (hok : ok ≠ true) (take : State → State) :
    s.command ok take = s.answered .badLength [] := by
  rw [Laws.command_eq, if_neg hok, Laws.openTransaction_eq s h]
  rfl

/-! ### The argument bytes of a configuration record (R181) -/

@[simp] theorem argByte_cons_zero (b : Byte) (rest : List Byte) : argByte (b :: rest) 0 = b := rfl

@[simp] theorem argByte_cons_succ (b : Byte) (rest : List Byte) (i : Nat) : argByte (b :: rest) (i + 1) = argByte rest i := rfl

@[simp] theorem argHalf_cons_succ (b : Byte) (rest : List Byte) (i : Nat) : argHalf (b :: rest) (i + 1) = argHalf rest i := rfl

@[simp] theorem argHalf_bytes16_append_zero (h : Half) (rest : List Byte) : argHalf (bytes16 h ++ rest) 0 = h :=
  Laws.half_bytes h

@[simp] theorem argByte_bytes16_append (h : Half) (rest : List Byte) (i : Nat) :
    argByte (bytes16 h ++ rest) (i + 2) = argByte rest i := rfl

@[simp] theorem argHalf_bytes16_append (h : Half) (rest : List Byte) (i : Nat) :
    argHalf (bytes16 h ++ rest) (i + 2) = argHalf rest i := rfl

theorem configRecord_bytes_length (c : ConfigRecord) : c.bytes.length = 59 := by
  unfold ConfigRecord.bytes
  simp only [List.length_append, Laws.bytes16_length, Laws.bytes32_length, List.length_cons, List.length_nil]

/-- A record is read back from its bytes: at each field's offset the fields before it are passed over one by one. -/
theorem configRecord_ofBytes_bytes (c : ConfigRecord) : ConfigRecord.ofBytes c.bytes = c := by
  unfold ConfigRecord.ofBytes ConfigRecord.bytes
  simp only [List.append_assoc, List.cons_append, List.nil_append, bytes32, argByte_cons_zero, argByte_cons_succ,
    argHalf_cons_succ, argByte_bytes16_append, argHalf_bytes16_append, argHalf_bytes16_append_zero, Laws.argHalf_bytes16,
    Laws.word_bytes]

/-! ### CONFIG_WRITE (R17) -/

theorem configWrite_of_not_configuring {s : State} (h : s.station.state ≠ .configuring) (args : List Byte) :
    s.configWrite args = s.refuse .wrongState :=
  if_neg h

theorem configWrite_of_inRange {s : State} {c : ConfigRecord} (h : s.station.state = .configuring) (hc : c.firstBad = none) :
    s.configWrite c.bytes = { s with station := { s.station with config := some c } }.refuse .ok := by
  simp only [State.configWrite, if_pos h, configRecord_ofBytes_bytes, hc]

theorem configWrite_of_firstBad {s : State} {c : ConfigRecord} {i : Nat} (h : s.station.state = .configuring)
    (hc : c.firstBad = some i) : s.configWrite c.bytes = s.respond .badArgument [byteOf i] := by
  simp only [State.configWrite, if_pos h, configRecord_ofBytes_bytes, hc]

/-- CONFIG_WRITE with another number of argument bytes than 59 ends at the host port. -/
theorem execConfigWrite_of_badLength {s : State} (h : s.host.softResetDue = false) {args : List Byte} (hlen : args.length ≠ 59) :
    exec (.configWrite args) s = .next (s.answered .badLength []) :=
  congrArg Host.Outcome.next (command_of_badLength h (by simpa using hlen) _)

/-- CONFIG_WRITE with the bytes of a record reaches the station controller. -/
theorem execConfigWrite_bytes {s : State} (h : s.host.softResetDue = false) (c : ConfigRecord) :
    exec (.configWrite c.bytes) s = .next (s.opened.configWrite c.bytes) :=
  congrArg Host.Outcome.next (command_of_lengthOk h (beq_iff_eq.2 (configRecord_bytes_length c)) _)

/-- Settles O6: the length test of the host port, then the state test, then the first field out of range or none. -/
theorem configWriteAcceptsOrNamesTheFailingField : Obligations.ConfigWriteAcceptsOrNamesTheFailingField := by
  refine fun s hreset => ⟨fun args => execConfigWrite_of_badLength hreset, fun c => ?_⟩
  rw [execConfigWrite_bytes hreset]
  refine ⟨fun hstate => ?_, fun hstate hc => ?_, fun i hstate hc => ?_⟩
  · rw [configWrite_of_not_configuring (s := s.opened) hstate, opened_refuse]
  · rw [configWrite_of_inRange (s := s.opened) hstate hc]
    rfl
  · rw [configWrite_of_firstBad (s := s.opened) hstate hc, opened_respond]

/-! ### START (R18) -/

/-- Test 4 of START: the ENTRY station belongs to every train, STAND k to one of at least k stands, the EXIT station to one with an
exit. -/
theorem belongs_iff (c : ConfigRecord) (p : BitVec 4) :
    belongs c p = true ↔ p.toNat ≤ 8 ∧ p.toNat ≤ c.trainSize.toNat ∨ p.toNat = 9 ∧ c.exitPresent = 1 := by
  unfold belongs ConfigRecord.n ConfigRecord.hasExit
  cases hrole : roleOf p with
  | entry =>
    obtain rfl := (Laws.roleOf_entry p).1 hrole
    simp
  | stand =>
    obtain ⟨-, h8⟩ := (Laws.roleOf_stand p).1 hrole
    have h9 : p.toNat ≠ 9 := by omega
    simp [h8, h9]
  | exit =>
    have h9 := (Laws.roleOf_exit p).1 hrole
    simp [h9]
  | invalid =>
    have h10 := (Laws.roleOf_invalid p).1 hrole
    simp only [Bool.false_eq_true, false_iff]
    omega

theorem startCommand_of_not_configuring {s : State} (h : s.station.state ≠ .configuring) :
    s.startCommand = s.refuse .wrongState :=
  if_pos h

theorem startCommand_of_invalid {s : State} (h : s.station.state = .configuring) (hrole : s.role = .invalid) :
    s.startCommand = s.refuse .wrongRole := by
  rw [State.startCommand, if_neg (not_not.2 h), if_pos hrole]

theorem startCommand_of_unwritten {s : State} (h : s.station.state = .configuring) (hrole : s.role ≠ .invalid)
    (hconfig : s.station.config = none) : s.startCommand = s.respond .badArgument [0] := by
  simp only [State.startCommand, if_neg (not_not.2 h), if_neg hrole, hconfig]

/-- With a record held, test 4 decides between the start and the last refusal. -/
theorem startCommand_of_config {s : State} {c : ConfigRecord} (h : s.station.state = .configuring) (hrole : s.role ≠ .invalid)
    (hconfig : s.station.config = some c) :
    s.startCommand = if belongs c s.station.position then s.accept c else s.refuse .wrongRole := by
  simp only [State.startCommand, if_neg (not_not.2 h), if_neg hrole, hconfig]

/-- START without arguments reaches the station controller. -/
theorem execStart_nil {s : State} (h : s.host.softResetDue = false) : exec (.start []) s = .next s.opened.startCommand :=
  congrArg Host.Outcome.next (command_of_lengthOk h rfl _)

theorem role_ne_invalid {s : State} (h : s.station.position.toNat ≤ 9) : s.role ≠ .invalid :=
  mt (Laws.roleOf_invalid _).1 (by omega)

/-- Settles O8: each test in turn, those before it met. -/
theorem startMakesItsFourTestsInOrder : Obligations.StartMakesItsFourTestsInOrder := by
  intro s hreset
  rw [execStart_nil hreset]
  refine ⟨fun hstate => ?_, fun hstate hpos => ?_, fun hstate hpos hconfig => ?_, fun c hstate hconfig hout => ?_⟩
  · rw [startCommand_of_not_configuring (s := s.opened) hstate, opened_refuse]
  · rw [startCommand_of_invalid (s := s.opened) hstate ((Laws.roleOf_invalid _).2 hpos), opened_refuse]
  · rw [startCommand_of_unwritten (s := s.opened) hstate (role_ne_invalid hpos) hconfig, opened_respond]
  · have hpos : s.station.position.toNat ≤ 9 := by omega
    have hstranger : ¬ belongs c s.station.position = true := by
      rw [belongs_iff]
      rintro (⟨h8, hn⟩ | ⟨h9, hexit⟩)
      · omega
      · exact hout.elim (fun ⟨h8, _⟩ => by omega) (fun ⟨_, hno⟩ => hno hexit)
    rw [startCommand_of_config (s := s.opened) hstate (role_ne_invalid hpos) hconfig, opened_station, if_neg hstranger, opened_refuse]

end Sys2Proof.Proofs

/-! Queuing a telegram (03 R34 to R36). -/

namespace Sys2Proof.Proofs

open Sys2Proof.Machine

/-! ### What queuing does, class by class -/

/-- The bus unit takes telegrams into its queues: it is ACTIVE and the station is not FAULTED (R36). -/
def Queues (s : State) : Prop := s.bus.state = .active ∧ s.station.state ≠ .faulted

theorem Queues.not_discards {s : State} (h : Queues s) : ¬ (s.bus.state = .silent ∨ s.station.state = .faulted) := by
  obtain ⟨hactive, hstation⟩ := h
  rw [hactive]
  exact fun hdiscards => hdiscards.elim BusState.noConfusion hstation

/-- R36: nothing is left of the telegram. -/
theorem queueTelegram_of_discards (t : Telegram) {s : State} (h : s.bus.state = .silent ∨ s.station.state = .faulted) :
    s.queueTelegram t = s :=
  if_pos h

/-- R35: a STOP or EVENT telegram joins the tail of its queue where there is room. -/
theorem queueTelegram_of_room {t : Telegram} {s : State} {cls : TxClass} (hs : Queues s) (ht : t.cls = cls)
    (hcls : cls = .stop ∨ cls = .event) (hroom : (s.bus.queue cls).length < cls.room) :
    s.queueTelegram t = { s with bus := s.bus.withQueue (s.bus.queue cls ++ [fresh t]) cls } := by
  subst ht
  rw [State.queueTelegram, if_neg hs.not_discards]
  rcases hcls with h | h <;> simp only [h] at hroom ⊢ <;> exact if_pos hroom

/-- R35: a STOP or EVENT telegram is dropped where its queue is full, with reason QUEUE_FULL. -/
theorem queueTelegram_of_full {t : Telegram} {s : State} {cls : TxClass} (hs : Queues s) (ht : t.cls = cls)
    (hcls : cls = .stop ∨ cls = .event) (hfull : cls.room ≤ (s.bus.queue cls).length) :
    s.queueTelegram t = s.dropped t 0 := by
  subst ht
  rw [State.queueTelegram, if_neg hs.not_discards]
  rcases hcls with h | h <;> simp only [h] at hfull ⊢ <;> exact if_neg (Nat.not_lt.2 hfull)

/-- R42: the attempt on the line runs on without its telegram where the queue of its class gives that up. -/
theorem detachAttempt_of_class (b : Bus) (cls : TxClass) :
    (b.detachAttempt fun c _ => c = cls) =
      b.attempt.map fun a => if a.cls = cls then { a with queued := false } else a := by
  simp only [Bus.detachAttempt, decide_eq_true_eq]

/-- R34: a REPORT or LINK telegram takes the place of the one held. -/
theorem queueTelegram_of_replaces {t : Telegram} {s : State} {cls : TxClass} (hs : Queues s) (ht : t.cls = cls)
    (hcls : cls = .report ∨ cls = .link) :
    s.queueTelegram t = { s with bus := { s.bus.withQueue [fresh t] cls with
      attempt := s.bus.attempt.map fun a => if a.cls = cls then { a with queued := false } else a } } := by
  subst ht
  rw [State.queueTelegram, if_neg hs.not_discards, ← detachAttempt_of_class]
  rcases hcls with h | h <;> simp only [h]

/-- Settles O34: the discard of R36, then each class by its rule. -/
theorem queuingATelegramFollowsItsClass : Obligations.QueuingATelegramFollowsItsClass := by
  refine fun t s => ⟨queueTelegram_of_discards t, fun hactive hstation => ?_⟩
  have hs : Queues s := ⟨hactive, hstation⟩
  refine ⟨fun ht hroom => ?stop, fun ht hroom => ?event, fun hfull => ?full, fun ht => ?report, fun ht => ?link⟩
  case stop => exact queueTelegram_of_room hs ht (.inl rfl) hroom
  case event => exact queueTelegram_of_room hs ht (.inr rfl) hroom
  case full =>
    obtain ⟨ht, hfull⟩ | ⟨ht, hfull⟩ := hfull
    · exact queueTelegram_of_full hs ht (.inl rfl) hfull
    · exact queueTelegram_of_full hs ht (.inr rfl) hfull
  case report => exact queueTelegram_of_replaces hs ht (.inl rfl)
  case link => exact queueTelegram_of_replaces hs ht (.inr rfl)

end Sys2Proof.Proofs

/-! PIECE_WITHDRAW and TRACK_REMOVE (04 R80, R84). -/

namespace Sys2Proof.Proofs

open Sys2Proof.Machine

/-! ### Finding the entry (R59) -/

theorem oldest_of_Oldest {s : State} {p : Entry → Prop} [DecidablePred p] {k : Nat} {e : Entry} (h : s.Oldest p k e) :
    s.oldest (fun e => p e) = some k := by
  obtain ⟨hat, hp, hfirst⟩ := h
  exact (Laws.oldest_eq_some s _ k).2 ⟨e, hat, decide_eq_true hp, fun j hj f hf => decide_eq_false (hfirst j hj f hf)⟩

theorem oldest_eq_none_of_forall {s : State} {p : Entry → Prop} [DecidablePred p] (h : ∀ e ∈ s.table, ¬ p e) :
    s.oldest (fun e => p e) = none :=
  (Laws.oldest_eq_none s _).2 fun e he => decide_eq_false (h e he)

theorem slotOfTag_of_Names {s : State} {t : Half} {k : Nat} {e : Entry} (h : s.Names t k e) : s.slotOfTag t = some k := by
  obtain ⟨ht, hat, htag, hfirst⟩ := h
  exact (Laws.slotOfTag_eq_some s t k).2 ⟨ht, e, hat, htag, hfirst⟩

/-! ### A command whose argument is a tag -/

/-- Two argument bytes pass the length test of the host port, and the command takes the tag they are. -/
theorem command_bytes16 {s : State} (h : s.host.softResetDue = false) (t : Half) (take : Half → State → State) :
    s.command ((bytes16 t).length == 2) (take (argHalf (bytes16 t) 0)) = take t s.opened := by
  rw [command_of_lengthOk h (beq_iff_eq.2 (Laws.bytes16_length t)), Laws.argHalf_bytes16]

/-! ### PIECE_WITHDRAW (R80, R172) -/

theorem role_eq_entry_iff (s : State) : s.role = .entry ↔ s.station.position = 0 := Laws.roleOf_entry _

/-- R172: only the ENTRY station withdraws. -/
theorem pieceWithdraw_of_not_entry {s : State} (hpos : s.station.position ≠ 0) (t : Half) :
    s.pieceWithdraw t = s.refuse .wrongRole :=
  if_pos (mt (role_eq_entry_iff s).1 hpos)

theorem pieceWithdraw_of_not_running {s : State} (hpos : s.station.position = 0) (hstate : s.station.state ≠ .running) (t : Half) :
    s.pieceWithdraw t = s.refuse .wrongState := by
  rw [State.pieceWithdraw, if_neg (not_not.2 ((role_eq_entry_iff s).2 hpos)), if_pos hstate]

theorem pieceWithdraw_of_Unknown {s : State} {t : Half} (hpos : s.station.position = 0) (hstate : s.station.state = .running)
    (ht : s.Unknown t) : s.pieceWithdraw t = s.refuse .notFound := by
  simp only [State.pieceWithdraw, if_neg (not_not.2 ((role_eq_entry_iff s).2 hpos)), if_neg (not_not.2 hstate),
    (Laws.slotOfTag_eq_none s t).2 ht]

/-- With the entry found, its phase decides between the removal, which the train is told of, and the last refusal. -/
theorem pieceWithdraw_of_Names {s : State} {t : Half} {k : Nat} {e : Entry} (hpos : s.station.position = 0)
    (hstate : s.station.state = .running) (ht : s.Names t k e) :
    s.pieceWithdraw t =
      if e.phase = .announced then ((s.withdrawEntry k e .withdraw).queueTelegram (.pieceWithdraw t)).refuse .ok
      else s.refuse .active := by
  have hslot := slotOfTag_of_Names ht
  obtain ⟨-, hat, -, -⟩ := ht
  simp only [State.pieceWithdraw, if_neg (not_not.2 ((role_eq_entry_iff s).2 hpos)), if_neg (not_not.2 hstate),
    hslot, hat]

theorem execPieceWithdraw_bytes {s : State} (h : s.host.softResetDue = false) (t : Half) :
    exec (.pieceWithdraw (bytes16 t)) s = .next (s.opened.pieceWithdraw t) :=
  congrArg Host.Outcome.next (command_bytes16 h t State.pieceWithdraw)

/-! ### TRACK_REMOVE (R84) -/

theorem trackRemove_of_not_running {s : State} (hstate : s.station.state ≠ .running) (t : Half) :
    s.trackRemove t = s.refuse .wrongState :=
  if_pos hstate

theorem trackRemove_of_absent {s : State} {t : Half} (hstate : s.station.state = .running) (ht : ∀ e ∈ s.table, e.tag ≠ t) :
    s.trackRemove t = s.refuse .notFound := by
  simp only [State.trackRemove, if_neg (not_not.2 hstate), oldest_eq_none_of_forall ht]

/-- With the entry found, being in-stand decides between the refusal and the removal. -/
theorem trackRemove_of_Oldest {s : State} {t : Half} {k : Nat} {e : Entry} (hstate : s.station.state = .running)
    (ht : s.Oldest (fun e => e.tag = t) k e) :
    s.trackRemove t = if e.isInStand then s.refuse .active else (s.withdrawEntry k e .host).refuse .ok := by
  have hslot := oldest_of_Oldest ht
  obtain ⟨hat, -, -⟩ := ht
  simp only [State.trackRemove, if_neg (not_not.2 hstate), hslot, hat]

theorem execTrackRemove_bytes {s : State} (h : s.host.softResetDue = false) (t : Half) :
    exec (.trackRemove (bytes16 t)) s = .next (s.opened.trackRemove t) :=
  congrArg Host.Outcome.next (command_bytes16 h t State.trackRemove)

/-- Settles O22: for each command its tests in turn, those before met, then the removal of the entry found. -/
theorem hostRemovalsTestAndRemove : Obligations.HostRemovalsTestAndRemove := by
  intro t s hreset
  rw [execPieceWithdraw_bytes hreset, execTrackRemove_bytes hreset]
  refine ⟨⟨fun hpos => ?_, fun hpos hstate => ?_, fun hpos hstate ht => ?_, fun k e hpos hstate ht => ?withdraw⟩,
    fun hstate => ?_, fun hstate ht => ?_, fun k e hstate ht => ?remove⟩
  · rw [pieceWithdraw_of_not_entry (s := s.opened) hpos, opened_refuse]
  · rw [pieceWithdraw_of_not_running (s := s.opened) hpos hstate, opened_refuse]
  · rw [pieceWithdraw_of_Unknown (s := s.opened) hpos hstate ht, opened_refuse]
  case withdraw =>
    rw [pieceWithdraw_of_Names (s := s.opened) hpos hstate ht]
    obtain ⟨-, -, rfl, -⟩ := ht
    refine ⟨fun hphase => ?_, fun hphase => ?_⟩
    · rw [if_pos hphase]
      rfl
    · rw [if_neg hphase, opened_refuse]
  · rw [trackRemove_of_not_running (s := s.opened) hstate, opened_refuse]
  · rw [trackRemove_of_absent (s := s.opened) hstate ht, opened_refuse]
  case remove =>
    rw [trackRemove_of_Oldest (s := s.opened) hstate ht]
    obtain ⟨-, rfl, -⟩ := ht
    refine ⟨fun hphase => ?_, fun hstand htail => ?_⟩
    · rw [if_pos ((Laws.isInStand_iff e).2 hphase), opened_refuse]
    · have hout : ¬ e.isInStand = true := by
        rw [Laws.isInStand_iff]
        exact fun h => h.elim hstand htail
      rw [if_neg hout]
      rfl

end Sys2Proof.Proofs

/-! The looper's faults and the stop they may bring (07 R136 to R138; 09 R160 to R164). -/

namespace Sys2Proof.Proofs

open Sys2Proof.Machine

/-! ### The operations of the model and the words of the statements -/

/-- The stations that drive a looper are those that trim (R123, R144). -/
theorem hasLooper_iff (c : ConfigRecord) (s : State) : s.hasLooper c = true ↔ s.Trims c :=
  Laws.drivesLooper_iff c s.station.position

/-- HANDOFF_FAULT is the telegram of code 7 (Table 3.1). -/
theorem isHandoffFault_eq_decide (t : Telegram) : t.isHandoffFault = decide (t.kind = 7) := by
  cases t <;> rfl

/-- R164: what the EVENT queue keeps and which attempt loses its telegram, by the kind of the telegram. -/
theorem flushForStop_eq (b : Bus) :
    b.flushForStop = { b with
      eventQueue := b.eventQueue.filter fun q => q.telegram.kind = 7
      reportQueue := []
      attempt := b.attempt.map fun a =>
        if a.cls = .report ∨ (a.cls = .event ∧ a.telegram.kind ≠ 7) then { a with queued := false } else a } := by
  simp [Bus.flushForStop, Bus.detachAttempt, isHandoffFault_eq_decide]

theorem toStopped_eq_stopped (l : Looper) : l.toStopped = l.stopped := by
  unfold Looper.toStopped Looper.stopped
  cases l.state <;> rfl

theorem enterStopped_eq_stopped (s : State) : s.enterStopped = s.stopped := by
  rw [State.enterStopped, flushForStop_eq, toStopped_eq_stopped]
  rfl

theorem autoStop_eq_autoStopped (level cause : Byte) (s : State) : s.autoStop level cause = s.autoStopped level cause := by
  simp only [State.autoStop, State.autoStopped, State.originateStop, State.takeOwnStop, Laws.queueTelegram_station,
    enterStopped_eq_stopped]
  rfl

/-- A fault of the looper itself: telegram, hold-off and auto-stop carry its code (R136 to R138). -/
theorem looperFault_eq_looperFaulted (c : ConfigRecord) (f : LooperFault) (s : State) :
    s.looperFault c f = s.looperFaulted c f.code := by
  rw [State.looperFault, State.looperFaulted, autoStop_eq_autoStopped, Laws.queueTelegram_looper]
  rfl

end Sys2Proof.Proofs

/-! The looper at a sample (07 R130, R132, R134, R135). -/

namespace Sys2Proof.Proofs

open Sys2Proof.Machine

/-! ### The sample, state by state (R130, R132, R134) -/

section Sample

variable {c : ConfigRecord} {x : Sample} {s : State}

theorem looperSample_of_rise (h : s.Trims c) (hl : s.looper.state = .lifting .rise) :
    s.looperSample c x = if c.workingAngle.toNat ≤ x.angle.toNat then s.riseComplete c else s := by
  simp only [State.looperSample, if_pos ((hasLooper_iff c s).2 h), hl]

theorem looperSample_of_regulating (h : s.Trims c) (hl : s.looper.state = .regulating) {ref : Half}
    (href : s.inStand?.bind Entry.tensionRef = some ref) : s.looperSample c x = s.policeTension c ref x.tension := by
  simp only [State.looperSample, if_pos ((hasLooper_iff c s).2 h), hl, href]

theorem looperSample_of_lowering (h : s.Trims c) (hl : s.looper.state = .lowering) :
    s.looperSample c x = if x.angle.toNat ≤ c.parkAngle.toNat then s.lowerComplete c else s := by
  simp only [State.looperSample, if_pos ((hasLooper_iff c s).2 h), hl]

/-- In the other states a sample does not move the looper. -/
theorem looperSample_of_resting
    (hl : s.looper.state = .parked ∨ s.looper.state = .armed ∨ s.looper.state = .lifting .settle ∨ s.looper.state = .holdOff) :
    s.looperSample c x = s := by
  unfold State.looperSample
  rcases hl with hl | hl | hl | hl <;> simp only [hl, ite_self]

end Sample

/-! ### The tension integrator (R132) -/

/-- A nonzero reference of the own pass is the in-stand entry's tension reference (R2, R7). -/
theorem inStand_tensionRef {s : State} {e : Entry} {own : PassEntry} (he : s.inStand? = some e) (hown : e.ownPass = some own)
    (href : own.tensionRef ≠ 0) : s.inStand?.bind Entry.tensionRef = some own.tensionRef := by
  simp only [he, Option.bind_some, Entry.tensionRef, hown, if_neg href]

/-- The magnitude of a deviation is the greater of the two less the smaller. -/
theorem deviation_eq (tension ref : Half) :
    deviation tension ref = max tension.toNat ref.toNat - min tension.toNat ref.toNat := by
  unfold deviation
  omega

section Tension

variable {c : ConfigRecord} {ref tension : Half} {s : State}

theorem policeTension_of_within (h : deviation tension ref ≤ tensionBandOf c ref) :
    s.policeTension c ref tension = { s with looper := { s.looper with integrator := s.looper.integrator - 1 } } :=
  if_neg (Nat.not_lt.2 h)

theorem policeTension_of_beyond (h : tensionBandOf c ref < deviation tension ref)
    (hlim : s.looper.integrator + 16 < c.tensionLimit.toNat) :
    s.policeTension c ref tension = { s with looper := { s.looper with integrator := s.looper.integrator + 16 } } := by
  simp only [State.policeTension, if_pos h, Nat.min_eq_right hlim.le, if_neg hlim.ne]

/-- The addition that reaches the limit makes the TENSION fault. -/
theorem policeTension_of_limit (h : tensionBandOf c ref < deviation tension ref)
    (hlim : c.tensionLimit.toNat ≤ s.looper.integrator + 16) :
    s.policeTension c ref tension =
      ((s.raise .tensionFault s.looper.served tension).setFlag .tension).looperFaulted c 3 := by
  simp only [State.policeTension, if_pos h, Nat.min_eq_left hlim, if_true, looperFault_eq_looperFaulted]
  rfl

end Tension

/-! ### The end of the lowering (R135) -/

/-- A CONFIRMED entry awaits no head. -/
theorem not_confirmed_of_awaits {e : Entry} (h : e.awaits) : e.downstream ≠ .confirmed := by
  intro hd
  simp [Entry.awaits, hd] at h

/-- The looper once its lowering is over, before the pending flags move it on (R135). -/
def lowerDone (l : Looper) : Looper :=
  { l with state := .parked, lowerTimer := none, armPending := false, liftPending := false }

section Lowering

variable {c : ConfigRecord} {e : Entry} {s : State}

theorem lowerComplete_of_late (he : s.inStand? = some e) (hlift : s.looper.liftPending = true ∧ e.downstream = .confirmed) :
    s.lowerComplete c = State.raise .lateLift e.tag 0 { s with looper := (lowerDone s.looper).lift c e.tag } := by
  simp only [State.lowerComplete, he, if_pos hlift]
  rfl

theorem lowerComplete_of_arming (he : s.inStand? = some e) (harm : s.looper.armPending = true ∧ e.awaits) :
    s.lowerComplete c = { s with looper := (lowerDone s.looper).arm e.tag } := by
  obtain ⟨hpending, hawaits⟩ := harm
  have hlift : ¬ (s.looper.liftPending = true ∧ e.downstream = .confirmed) := fun ⟨_, hd⟩ => not_confirmed_of_awaits hawaits hd
  simp only [State.lowerComplete, he, if_neg hlift, if_pos (And.intro hpending ((Laws.awaiting_iff _).2 hawaits))]
  rfl

/-- With no in-stand entry, or one that neither flag applies to, the looper parks. -/
theorem lowerComplete_of_neither (h : ∀ e, s.inStand? = some e → ¬ (s.looper.liftPending = true ∧ e.downstream = .confirmed) ∧
    ¬ (s.looper.armPending = true ∧ e.awaits)) : s.lowerComplete c = { s with looper := lowerDone s.looper } := by
  unfold State.lowerComplete
  cases he : s.inStand? with
  | none => rfl
  | some e =>
    obtain ⟨hlift, harm⟩ := h e he
    have hidle : ¬ (s.looper.armPending = true ∧ e.downstream.awaiting = true) := by rwa [Laws.awaiting_iff]
    simp only [if_neg hlift, if_neg hidle]
    rfl

end Lowering

/-- Settles O56: each looper state by its lemma, and within REGULATING and LOWERING by what the sample and the entry are. -/
theorem sampleMovesTheLooper : Obligations.SampleMovesTheLooper := by
  refine fun c x s htrims => ⟨fun hl => ?rise, fun e own hl he hown href => ?regulating, fun hl => ?lowering,
    looperSample_of_resting⟩
  case rise =>
    rw [looperSample_of_rise htrims hl]
    refine ⟨fun hangle => if_neg (Nat.not_le.2 hangle), fun hangle hsettle => ?_, fun hangle hsettle => ?_⟩
    · rw [if_pos hangle, State.riseComplete, if_neg hsettle]
    · rw [if_pos hangle, State.riseComplete, if_pos hsettle]
      rfl
  case regulating =>
    rw [looperSample_of_regulating htrims hl (inStand_tensionRef he hown href)]
    have hdev := deviation_eq x.tension own.tensionRef
    exact ⟨fun hin => policeTension_of_within (hdev.trans_le hin), fun hout => policeTension_of_beyond (hout.trans_eq hdev.symm),
      fun hout => policeTension_of_limit (hout.trans_eq hdev.symm)⟩
  case lowering =>
    rw [looperSample_of_lowering htrims hl]
    refine ⟨fun hangle => if_neg (Nat.not_le.2 hangle), fun hangle => ?_⟩
    rw [if_pos hangle]
    exact ⟨fun e he hpending hconfirmed => lowerComplete_of_late he ⟨hpending, hconfirmed⟩,
      fun e he hpending hawaits => lowerComplete_of_arming he ⟨hpending, hawaits⟩, lowerComplete_of_neither⟩

end Sys2Proof.Proofs

/-! BUS_RELINK, LOOPER_RELEASE and the hold-off timer (03 R45; 07 R139, R140). -/

namespace Sys2Proof.Proofs

open Sys2Proof.Machine

/-! ### BUS_RELINK (R45) -/

/-- A host command without arguments is taken in the state that has begun its transaction. -/
theorem command_nil {s : State} (h : s.host.softResetDue = false) (take : State → State) :
    s.command ([] : List Byte).isEmpty take = take s.opened :=
  command_of_lengthOk h rfl take

theorem execBusRelink_nil {s : State} (h : s.host.softResetDue = false) : exec (.busRelink []) s = .next s.opened.relink :=
  congrArg Host.Outcome.next (command_nil h State.relink)

theorem relink_of_silent {s : State} (h : s.bus.state = .silent) : s.relink = (s.leaveSilent 1).refuse .ok := if_pos h

theorem relink_of_active {s : State} (h : s.bus.state = .active) : s.relink = s.refuse .wrongState :=
  if_neg (by simp [h])

/-! ### LOOPER_RELEASE and the hold-off timer (R139, R140) -/

theorem execLooperRelease_nil {s : State} (h : s.host.softResetDue = false) :
    exec (.looperRelease []) s = .next s.opened.releaseLooper :=
  congrArg Host.Outcome.next (command_nil h State.releaseLooper)

/-- Test 1 of R140. -/
theorem releaseLooper_of_not_taken {s : State} (h : ¬ (s.station.state = .running ∨ s.station.state = .stopped)) :
    s.releaseLooper = s.refuse .wrongState :=
  if_pos (mt (Laws.runningOrStopped_iff s).1 h)

section Release

variable {c : ConfigRecord} {s : State}

/-- Tests 2 and 3 of R140, under the record in force. -/
theorem releaseLooper_of_taken (h : s.station.state = .running ∨ s.station.state = .stopped)
    (hconfig : s.station.config = some c) : s.releaseLooper =
      if ¬ s.Trims c then s.refuse .wrongRole
      else if s.looper.state = .holdOff then { s with looper := s.looper.leaveHoldOff }.refuse .ok
      else s.refuse .wrongState := by
  simp only [State.releaseLooper, if_neg (not_not.2 ((Laws.runningOrStopped_iff s).2 h)), hconfig, Option.any_some, hasLooper_iff]

theorem releaseLooper_of_not_trims (h : s.station.state = .running ∨ s.station.state = .stopped)
    (hconfig : s.station.config = some c) (hrole : ¬ s.Trims c) : s.releaseLooper = s.refuse .wrongRole := by
  rw [releaseLooper_of_taken h hconfig, if_pos hrole]

theorem releaseLooper_of_not_holdOff (h : s.station.state = .running ∨ s.station.state = .stopped)
    (hconfig : s.station.config = some c) (hrole : s.Trims c) (hl : s.looper.state ≠ .holdOff) :
    s.releaseLooper = s.refuse .wrongState := by
  rw [releaseLooper_of_taken h hconfig, if_neg (not_not.2 hrole), if_neg hl]

theorem releaseLooper_of_holdOff (h : s.station.state = .running ∨ s.station.state = .stopped)
    (hconfig : s.station.config = some c) (hrole : s.Trims c) (hl : s.looper.state = .holdOff) :
    s.releaseLooper = { s with looper := s.looper.leaveHoldOff }.refuse .ok := by
  rw [releaseLooper_of_taken h hconfig, if_neg (not_not.2 hrole), if_pos hl]

end Release

theorem timer_expired_iff (t : Timer) : t.expired = true ↔ t = some 0 := by
  simp [Timer.expired]

/-- HOLD_OFF_EXPIRY with the hold-off timer at its end in HOLD_OFF (R139). -/
theorem execHoldOffExpiry_of_expired {s : State} (hl : s.looper.state = .holdOff) (htimer : s.looper.holdOffTimer = some 0) :
    exec .holdOffExpiry s = .next { s with looper := s.looper.leaveHoldOff } :=
  if_pos (And.intro hl ((timer_expired_iff _).2 htimer))

/-- Settles O41: the two outcomes of BUS_RELINK, the tests of LOOPER_RELEASE in turn, and the expiry. -/
theorem relinkAndReleaseEndTheirConditions : Obligations.RelinkAndReleaseEndTheirConditions := by
  refine ⟨fun s hreset => ?relink, fun s hreset hrun hstop => ?notTaken, fun c s hreset hconfig => ?release,
    fun s hl htimer => ?expiry⟩
  case relink =>
    rw [execBusRelink_nil hreset]
    refine ⟨fun hsilent => ?_, fun hactive => ?_⟩
    · rw [relink_of_silent (s := s.opened) hsilent]
      rfl
    · rw [relink_of_active (s := s.opened) hactive, opened_refuse]
  case notTaken =>
    rw [execLooperRelease_nil hreset, releaseLooper_of_not_taken (s := s.opened) (not_or.2 ⟨hrun, hstop⟩), opened_refuse]
  case release =>
    rw [execLooperRelease_nil hreset]
    refine ⟨fun htaken hrole => ?_, fun htaken hrole hl => ?_, fun htaken hrole hl => ?_⟩
    · rw [releaseLooper_of_not_trims (s := s.opened) htaken hconfig hrole, opened_refuse]
    · rw [releaseLooper_of_not_holdOff (s := s.opened) htaken hconfig hrole hl, opened_refuse]
    · rw [releaseLooper_of_holdOff (s := s.opened) htaken hconfig hrole hl]
      rfl
  case expiry =>
    exact execHoldOffExpiry_of_expired hl htimer

end Sys2Proof.Proofs

/-! The event queue and its overflow rule (10 R173, R174). -/

namespace Sys2Proof.Proofs

open Sys2Proof.Machine

/-! ### The event that is displaced (R173) -/

theorem greatestClass_cons (e : Event) (es : List Event) : greatestClass (e :: es) = max e.kind.cls (greatestClass es) := rfl

/-- The greatest class is the least bound on the classes queued. -/
theorem greatestClass_le_iff (es : List Event) (c : Nat) : greatestClass es ≤ c ↔ ∀ q ∈ es, q.kind.cls ≤ c := by
  induction es with
  | nil => simp [greatestClass]
  | cons e es ih => rw [greatestClass_cons, max_le_iff, ih, List.forall_mem_cons]

/-- The greatest class is that of a queued event whose class no other exceeds. -/
theorem greatestClass_eq {es : List Event} {d : Event} (hd : d ∈ es) (hmax : ∀ q ∈ es, q.kind.cls ≤ d.kind.cls) :
    greatestClass es = d.kind.cls :=
  le_antisymm ((greatestClass_le_iff es _).2 hmax) ((greatestClass_le_iff es _).1 le_rfl d hd)

/-- A queue without an event of the class has no youngest of it. -/
theorem youngestOf_eq_none {c : Nat} {es : List Event} (h : ∀ q ∈ es, q.kind.cls ≠ c) : youngestOf c es = none := by
  induction es with
  | nil => rfl
  | cons e es ih =>
    obtain ⟨he, hes⟩ := List.forall_mem_cons.1 h
    simp [youngestOf, ih hes, he]

/-- The youngest event of a class is the one of that class with no other of it at a younger place. -/
theorem youngestOf_eq_some {es : List Event} {i : Nat} {d : Event} (hd : es[i]? = some d)
    (hyounger : ∀ j, i < j → ∀ q ∈ es[j]?, q.kind.cls ≠ d.kind.cls) : youngestOf d.kind.cls es = some i := by
  induction es generalizing i with
  | nil => cases hd
  | cons e es ih =>
    cases i with
    | zero =>
      obtain rfl : e = d := Option.some.inj hd
      have hnone : youngestOf e.kind.cls es = none := youngestOf_eq_none fun q hq => by
        obtain ⟨j, hj⟩ := List.mem_iff_getElem?.1 hq
        exact hyounger (j + 1) j.succ_pos q hj
      simp [youngestOf, hnone]
    | succ i =>
      have hsome : youngestOf d.kind.cls es = some i := ih hd fun j hj => hyounger (j + 1) (Nat.succ_lt_succ hj)
      simp [youngestOf, hsome]

/-- An event displaces none where no class queued is greater than its own. -/
theorem displacedBy_eq_none {c : Nat} {es : List Event} (h : ∀ q ∈ es, q.kind.cls ≤ c) : displacedBy c es = none :=
  if_neg (not_lt.2 ((greatestClass_le_iff es c).2 h))

/-- An event displaces the youngest of the greatest class queued, where that is greater than its own. -/
theorem displacedBy_eq_some {c i : Nat} {es : List Event} {d : Event} (hd : es[i]? = some d) (hc : c < d.kind.cls)
    (hmax : ∀ q ∈ es, q.kind.cls ≤ d.kind.cls) (hyounger : ∀ j, i < j → ∀ q ∈ es[j]?, q.kind.cls < d.kind.cls) :
    displacedBy c es = some i := by
  rw [displacedBy, greatestClass_eq (List.mem_of_getElem? hd) hmax, if_pos hc]
  exact youngestOf_eq_some hd fun j hj q hq => (hyounger j hj q hq).ne

/-! ### Counting an overflow and raising an event (R173) -/

/-- The overflow count advances by 1 and stays at 255. -/
theorem satInc_eq (a : Byte) : satInc a = if a = 255 then 255 else a + 1 := by
  revert a; decide

theorem countOverflow_eq (h : HostPort) : h.countOverflow = h.overflowed := by
  simp only [HostPort.countOverflow, satInc_eq]
  rfl

theorem raise_of_room {e : Event} {h : HostPort} (hroom : h.events.length < eventRoom) :
    h.raise e = { h with events := h.events ++ [e] } :=
  if_pos hroom

/-- A full queue that gives up no event discards the new one. -/
theorem raise_of_full_of_none {e : Event} {h : HostPort} (hfull : eventRoom ≤ h.events.length)
    (hnone : displacedBy e.kind.cls h.events = none) : h.raise e = h.overflowed := by
  rw [HostPort.raise, if_neg (not_lt.2 hfull), hnone]
  exact countOverflow_eq h

/-- A full queue gives up the event at place i for the new one, and its record, where it is being clocked out, is displaced (R174). -/
theorem raise_of_full_of_some {e : Event} {h : HostPort} {i : Nat} (hfull : eventRoom ≤ h.events.length)
    (hsome : displacedBy e.kind.cls h.events = some i) :
    h.raise e = HostPort.overflowed { h with events := h.events.eraseIdx i ++ [e], reading := h.reading.afterRemoval i } := by
  rw [HostPort.raise, if_neg (not_lt.2 hfull), hsome]
  exact countOverflow_eq _

/-- Settles O37: room, a full queue that discards the event, and a full queue that gives up another for it. -/
theorem eventQueueGivesUpTheLeastUrgentEvent : Obligations.EventQueueGivesUpTheLeastUrgentEvent := by
  refine ⟨fun e h => ⟨raise_of_room, fun hfull hleast => ?discarded, fun i d hfull hd hc hmax hyounger => ?displaced⟩,
    fun kind tag detail s => rfl⟩
  case discarded => exact raise_of_full_of_none hfull (displacedBy_eq_none hleast)
  case displaced => exact raise_of_full_of_some hfull (displacedBy_eq_some hd hc hmax hyounger)

end Sys2Proof.Proofs

/-! The train bus unit and the event queue at every step (03 R33 to R44; 10 R173). -/

namespace Sys2Proof.Proofs

open Sys2Proof.Machine

/-! ### The invariants, class by class -/

/-- `State.BusSafe` with its four queues taken class by class, of the two parts of the state that it speaks of. -/
structure BusOk (state : StationState) (b : Bus) : Prop where
  room : ∀ cls, (b.queue cls).length ≤ cls.room
  sorted : ∀ cls, ∀ q ∈ b.queue cls, q.telegram.cls = cls ∧ q.failed ≤ 3
  heads : b.AttemptHeads
  line : b.LineAgrees
  counted : b.Counted
  quiet : b.state = .silent ∨ state = .faulted → (∀ cls, b.queue cls = []) ∧ b.attempt = none

theorem forall_txClass {p : TxClass → Prop} : (∀ cls, p cls) ↔ p .stop ∧ p .event ∧ p .report ∧ p .link :=
  ⟨fun h => ⟨h _, h _, h _, h _⟩, fun ⟨hs, he, hr, hl⟩ cls => by cases cls <;> assumption⟩

theorem busOk_iff (s : State) : BusOk s.station.state s.bus ↔ s.BusSafe := by
  constructor
  · rintro ⟨hroom, hsorted, hheads, hline, hcounted, hquiet⟩
    rw [forall_txClass] at hroom hsorted
    exact ⟨hroom, hsorted, hheads, hline, hcounted, fun h => ⟨forall_txClass.1 (hquiet h).1, (hquiet h).2⟩⟩
  · rintro ⟨hroom, hsorted, hheads, hline, hcounted, hquiet⟩
    exact ⟨forall_txClass.2 hroom, forall_txClass.2 hsorted, hheads, hline, hcounted,
      fun h => ⟨forall_txClass.2 (hquiet h).1, (hquiet h).2⟩⟩

/-- The invariants of the train bus unit and of the event queue. -/
def QueuesSafe (s : State) : Prop := BusOk s.station.state s.bus ∧ s.host.events.length ≤ eventRoom

theorem queuesSafe_iff (s : State) : QueuesSafe s ↔ s.BusSafe ∧ s.EventsSafe := and_congr_left' (busOk_iff s)

/-! ### The train bus unit's own operations -/

section BusUnit

variable {st st' : StationState} {b : Bus}

/-- The station state matters to the bus unit only in being FAULTED (R36). -/
theorem BusOk.changeState (h : BusOk st b) (hst : st' ≠ .faulted) : BusOk st' b :=
  { h with quiet := fun hq => h.quiet (hq.imp_right fun e => absurd e hst) }

/-- A bus unit with an attempt on the line, or with a telegram queued, is ACTIVE and its station not FAULTED. -/
theorem BusOk.awake (h : BusOk st b) (hbusy : b.attempt ≠ none ∨ ∃ cls, b.queue cls ≠ []) :
    b.state = .active ∧ st ≠ .faulted := by
  have hn : ¬ (b.state = .silent ∨ st = .faulted) := fun hq =>
    hbusy.elim (fun ha => ha (h.quiet hq).2) fun ⟨cls, hc⟩ => hc ((h.quiet hq).1 cls)
  obtain ⟨hsilent, hstate⟩ := not_or.1 hn
  cases hb : b.state
  · exact ⟨rfl, hstate⟩
  · exact absurd hb hsilent

@[simp] theorem withQueue_attempt (b : Bus) (q : List Queued) (cls : TxClass) : (b.withQueue q cls).attempt = b.attempt := by
  cases cls <;> rfl
@[simp] theorem withQueue_line (b : Bus) (q : List Queued) (cls : TxClass) : (b.withQueue q cls).line = b.line := by
  cases cls <;> rfl
@[simp] theorem withQueue_state (b : Bus) (q : List Queued) (cls : TxClass) : (b.withQueue q cls).state = b.state := by
  cases cls <;> rfl
@[simp] theorem withQueue_failures (b : Bus) (q : List Queued) (cls : TxClass) : (b.withQueue q cls).failures = b.failures := by
  cases cls <;> rfl
@[simp] theorem withQueue_good (b : Bus) (q : List Queued) (cls : TxClass) : (b.withQueue q cls).good = b.good := by
  cases cls <;> rfl

/-- While the bus unit takes telegrams, one of its queues may hold others. -/
theorem BusOk.requeue (h : BusOk st b) {b' : Bus} {cls : TxClass} {q : List Queued}
    (hqueue : ∀ d, b'.queue d = (b.withQueue q cls).queue d) (hroom : q.length ≤ cls.room)
    (hsorted : ∀ x ∈ q, x.telegram.cls = cls ∧ x.failed ≤ 3) (hactive : b'.state = .active) (hst : st ≠ .faulted)
    (hheads : b'.AttemptHeads) (hline : b'.LineAgrees) (hcounted : b'.Counted) : BusOk st b' := by
  refine ⟨fun d => ?room, fun d => ?sorted, hheads, hline, hcounted, fun hq => ?quiet⟩
  case room =>
    rw [hqueue, Laws.queue_withQueue]
    split
    · subst d; exact hroom
    · exact h.room d
  case sorted =>
    rw [hqueue, Laws.queue_withQueue]
    split
    · subst d; exact hsorted
    · exact h.sorted d
  case quiet => exact absurd hq (by simp [hactive, hst])

/-- A telegram joins the tail of its queue. -/
theorem BusOk.append (h : BusOk st b) (hactive : b.state = .active) (hst : st ≠ .faulted) {t : Telegram} {cls : TxClass}
    (ht : t.cls = cls) (hroom : (b.queue cls).length < cls.room) : BusOk st (b.withQueue (b.queue cls ++ [fresh t]) cls) := by
  refine h.requeue (fun _ => rfl) (by simpa using hroom) (fun x hx => ?sorted) (by simpa) hst (fun a ha hqueued => ?heads)
    (by cases cls <;> exact h.line) (by cases cls <;> exact h.counted)
  case sorted =>
    rcases List.mem_append.1 hx with hx | hx
    · exact h.sorted cls x hx
    · obtain rfl := List.mem_singleton.1 hx
      exact ⟨ht, Nat.zero_le 3⟩
  case heads =>
    obtain ⟨x, hx, hxa⟩ := h.heads a (by simpa using ha) hqueued
    refine ⟨x, ?_, hxa⟩
    rw [Laws.queue_withQueue]
    split
    · rename_i hcls
      rw [← hcls, List.head?_append, Option.mem_def.1 hx]
      rfl
    · exact hx

/-- A telegram replaces the one held, whose attempt runs on without it (R34). -/
theorem BusOk.replace (h : BusOk st b) (hactive : b.state = .active) (hst : st ≠ .faulted) {t : Telegram} {cls : TxClass}
    (ht : t.cls = cls) : BusOk st { b.withQueue [fresh t] cls with attempt := b.detachAttempt fun c _ => c = cls } := by
  refine h.requeue (cls := cls) (q := [fresh t]) (fun d => by cases d <;> rfl) (by cases cls <;> exact Nat.le_add_left 1 _)
    (fun x hx => ?sorted) (by simpa) hst (fun a ha hqueued => ?heads) (fun ha => ?line) (by cases cls <;> exact h.counted)
  case sorted =>
    obtain rfl := List.mem_singleton.1 hx
    exact ⟨ht, Nat.zero_le 3⟩
  case heads =>
    obtain ⟨a', ha', rfl⟩ := Option.map_eq_some_iff.1 ha
    by_cases hcls : a'.cls = cls
    · simp [hcls] at hqueued
    · simp only [hcls, decide_false, Bool.false_eq_true, if_false] at hqueued ⊢
      obtain ⟨x, hx, hxa⟩ := h.heads a' ha' hqueued
      refine ⟨x, ?_, hxa⟩
      show x ∈ ((b.withQueue [fresh t] cls).queue a'.cls).head?
      rwa [Laws.queue_withQueue, if_neg hcls]
  case line =>
    have hsome : b.attempt.isSome := by simpa [Bus.detachAttempt] using ha
    simpa using h.line hsome

/-- An attempt begins for the telegram that heads the queues. -/
theorem BusOk.begin (h : BusOk st b) (hactive : b.state = .active) {cls : TxClass} {q : Queued} {rest : List Queued}
    (hq : b.queue cls = q :: rest) : BusOk st (b.begin cls q) := by
  have hst := (h.awake (.inr ⟨cls, by simp [hq]⟩)).2
  have hroom := h.room cls
  have hsorted := h.sorted cls
  rw [hq] at hroom hsorted
  refine h.requeue (cls := cls) (q := { q with seq := some (q.numberAt b.ownSeq) } :: rest)
    (fun d => by rw [Bus.begin, hq]; cases cls <;> cases d <;> rfl) hroom (fun x hx => ?sorted) (by simpa [Bus.begin]) hst
    (fun a ha _ => ?heads) (fun _ => rfl) (by cases cls <;> exact h.counted)
  case sorted =>
    rcases List.mem_cons.1 hx with rfl | hx
    · exact hsorted q (List.mem_cons_self ..)
    · exact hsorted x (List.mem_cons_of_mem _ hx)
  case heads =>
    obtain rfl := Option.some.inj ha
    refine ⟨{ q with seq := some (q.numberAt b.ownSeq) }, ?_, rfl, rfl⟩
    show _ ∈ ((b.withQueue _ cls).queue cls).head?
    rw [Laws.queue_withQueue, if_pos rfl]
    rfl

/-- The bus unit after an attempt has left the line. -/
theorem BusOk.endAttempt (h : BusOk st b) {b' : Bus} (hqueue : ∀ d, b'.queue d = b.queue d) (hstate : b'.state = b.state)
    (hattempt : b'.attempt = none) (hcounted : b'.Counted) : BusOk st b' := by
  refine ⟨fun d => hqueue d ▸ h.room d, fun d => hqueue d ▸ h.sorted d, ?_, ?_, hcounted, fun hq => ?_⟩
  · simp [Bus.AttemptHeads, hattempt]
  · simp [Bus.LineAgrees, hattempt]
  · exact ⟨fun d => (hqueue d).trans ((h.quiet (hstate ▸ hq)).1 d), hattempt⟩

/-- The head of a queue leaves it, no attempt being on the line. -/
theorem BusOk.tail (h : BusOk st b) (hactive : b.state = .active) (hst : st ≠ .faulted) (hattempt : b.attempt = none)
    (cls : TxClass) : BusOk st (b.withQueue (b.queue cls).tail cls) := by
  refine h.requeue (fun _ => rfl) ?_ (fun x hx => h.sorted cls x (List.mem_of_mem_tail hx)) (by simpa) hst
    (by simp [Bus.AttemptHeads, hattempt]) (by simp [Bus.LineAgrees, hattempt]) (by cases cls <;> exact h.counted)
  have := h.room cls
  simp only [List.length_tail]
  omega

/-- The head of a queue has failed once more, no attempt being on the line (R41). -/
theorem BusOk.retry (h : BusOk st b) (hactive : b.state = .active) (hst : st ≠ .faulted) (hattempt : b.attempt = none)
    {cls : TxClass} {q : Queued} {rest : List Queued} (hq : b.queue cls = q :: rest) (hfailed : q.failed + 1 < attemptLimit) :
    BusOk st (b.withQueue ({ q with failed := q.failed + 1 } :: rest) cls) := by
  have hroom := h.room cls
  have hsorted := h.sorted cls
  rw [hq] at hroom hsorted
  refine h.requeue (fun _ => rfl) hroom (fun x hx => ?_) (by simpa) hst
    (by simp [Bus.AttemptHeads, hattempt]) (by simp [Bus.LineAgrees, hattempt]) (by cases cls <;> exact h.counted)
  rcases List.mem_cons.1 hx with rfl | hx
  · exact ⟨(hsorted q (List.mem_cons_self ..)).1, Nat.le_of_lt_succ hfailed⟩
  · exact hsorted x (List.mem_cons_of_mem _ hx)

/-- The bus unit with its queues emptied and no attempt on the line (R28, R43). -/
theorem BusOk.of_empty {b' : Bus} (hqueue : ∀ cls, b'.queue cls = []) (hattempt : b'.attempt = none) (hcounted : b'.Counted) :
    BusOk st' b' :=
  ⟨fun d => by simp [hqueue d], fun d => by simp [hqueue d], by simp [Bus.AttemptHeads, hattempt],
    by simp [Bus.LineAgrees, hattempt], hcounted, fun _ => ⟨hqueue, hattempt⟩⟩

/-- Counting and the end of a frame leave the queues and the attempt as they are. -/
theorem BusOk.recount (h : BusOk st b) {b' : Bus} (hqueue : ∀ d, b'.queue d = b.queue d) (hattempt : b'.attempt = b.attempt)
    (hstate : b'.state = .silent → b.state = .silent) (hline : b'.LineAgrees) (hcounted : b'.Counted) : BusOk st b' := by
  refine ⟨fun d => hqueue d ▸ h.room d, fun d => hqueue d ▸ h.sorted d, fun a ha hqueued => ?_, hline, hcounted, fun hq => ?_⟩
  · rw [hqueue]
    exact h.heads a (hattempt ▸ ha) hqueued
  · obtain ⟨hempty, hnone⟩ := h.quiet (hq.imp_left hstate)
    exact ⟨fun d => (hqueue d).trans (hempty d), hattempt.trans hnone⟩

/-- The flush on entering STOPPED keeps a queued HANDOFF_FAULT at the head of its queue (R164). -/
theorem BusOk.flushForStop (h : BusOk st b) (hst : st' ≠ .faulted) : BusOk st' b.flushForStop := by
  have hsub (d : TxClass) : (b.flushForStop.queue d).Sublist (b.queue d) := by
    cases d
    · exact List.Sublist.refl _
    · exact List.filter_sublist
    · exact List.nil_sublist _
    · exact List.Sublist.refl _
  refine ⟨fun d => (hsub d).length_le.trans (h.room d), fun d q hq => h.sorted d q ((hsub d).subset hq),
    fun a ha hqueued => ?heads, fun ha => ?line, h.counted, fun hq => ?quiet⟩
  case heads =>
    obtain ⟨a', ha', rfl⟩ := Option.map_eq_some_iff.1 ha
    split at hqueued
    · simp at hqueued
    · rename_i hstays
      rw [if_neg hstays]
      obtain ⟨x, hx, hxt, hxs⟩ := h.heads a' ha' hqueued
      refine ⟨x, ?_, hxt, hxs⟩
      cases hcls : a'.cls
      · rw [hcls] at hx; exact hx
      · rw [hcls] at hx
        obtain ⟨rest, hrest⟩ := List.head?_eq_some_iff.1 hx
        have hkept : x.telegram.isHandoffFault = true := by simpa [hcls, hxt] using hstays
        show x ∈ (b.eventQueue.filter fun q => q.telegram.isHandoffFault).head?
        rw [show b.eventQueue = x :: rest from hrest, List.filter_cons, if_pos hkept]
        rfl
      · simp [hcls] at hstays
      · rw [hcls] at hx; exact hx
  case line => exact h.line (by simpa [Bus.flushForStop, Bus.detachAttempt] using ha)
  case quiet =>
    obtain ⟨hempty, hnone⟩ := h.quiet (.inl (hq.resolve_right hst))
    exact ⟨fun d => List.sublist_nil.1 (hempty d ▸ hsub d), by simp [Bus.flushForStop, Bus.detachAttempt, hnone]⟩

end BusUnit

/-! ### The shared operations -/

section Operations

variable {s : State} {c : ConfigRecord}

/-- Only the station state, the bus unit and the event queue are spoken of. -/
theorem QueuesSafe.of_bus (h : QueuesSafe s) {b : Bus} (hb : BusOk s.station.state b) : QueuesSafe { s with bus := b } :=
  ⟨hb, h.2⟩

theorem QueuesSafe.withTrim (h : QueuesSafe s) (t : Trim) : QueuesSafe { s with trim := t } := h

theorem QueuesSafe.withLooper (h : QueuesSafe s) (l : Looper) : QueuesSafe { s with looper := l } := h

theorem QueuesSafe.withDetector (h : QueuesSafe s) (d : Detector) : QueuesSafe { s with detector := d } := h

theorem QueuesSafe.withStand (h : QueuesSafe s) (stand : Stand) : QueuesSafe { s with stand := stand } := h

theorem QueuesSafe.withTable (h : QueuesSafe s) (table : List Entry) : QueuesSafe { s with table := table } := h

theorem QueuesSafe.ite {p : Prop} [Decidable p] {u v : State} (hu : QueuesSafe u) (hv : QueuesSafe v) :
    QueuesSafe (if p then u else v) := by
  split
  · exact hu
  · exact hv

theorem QueuesSafe.raise (h : QueuesSafe s) (k : EventKind) (tag d : Half) : QueuesSafe (s.raise k tag d) :=
  ⟨h.1, Laws.raise_within_room _ _ h.2⟩

theorem QueuesSafe.setFlag (h : QueuesSafe s) (f : LatchedFlag) : QueuesSafe (s.setFlag f) := h

theorem QueuesSafe.dropTelegram (h : QueuesSafe s) (t : Telegram) (why : Byte) : QueuesSafe (s.dropTelegram t why) := by
  have hb : QueuesSafe { s with bus := { s.bus with counters := { s.bus.counters with
      txDrop := satAdd s.bus.counters.txDrop 1 } } } :=
    h.of_bus (h.1.recount (fun d => by cases d <;> rfl) rfl id h.1.line h.1.counted)
  exact (hb.raise ..).setFlag _

theorem QueuesSafe.queueTelegram (h : QueuesSafe s) (t : Telegram) : QueuesSafe (s.queueTelegram t) := by
  unfold State.queueTelegram
  split
  · exact h
  · rename_i hq
    obtain ⟨hsilent, hst⟩ := not_or.1 hq
    have hactive : s.bus.state = .active := by
      cases hb : s.bus.state
      · rfl
      · exact absurd hb hsilent
    have hjoins : QueuesSafe (if (s.bus.queue t.cls).length < t.cls.room then
        { s with bus := s.bus.withQueue (s.bus.queue t.cls ++ [fresh t]) t.cls } else s.dropTelegram t 0) := by
      split
      · rename_i hroom
        exact h.of_bus (h.1.append hactive hst rfl hroom)
      · exact h.dropTelegram ..
    have hreplaces := h.of_bus (h.1.replace hactive hst (t := t) rfl)
    cases hcls : t.cls <;> rw [hcls] at hjoins hreplaces
    · exact hjoins
    · exact hjoins
    · exact hreplaces
    · exact hreplaces

theorem QueuesSafe.enterStopped (h : QueuesSafe s) : QueuesSafe s.enterStopped :=
  ⟨h.1.flushForStop StationState.noConfusion, h.2⟩

theorem QueuesSafe.enterFaulted (h : QueuesSafe s) (cause : FaultCause) (src : Fin 10) : QueuesSafe (s.enterFaulted cause src) :=
  ⟨BusOk.of_empty (fun cls => by cases cls <;> rfl) rfl h.1.counted, Laws.raise_within_room _ _ h.2⟩

theorem QueuesSafe.takeOwnStop (h : QueuesSafe s) (level cause : Byte) : QueuesSafe (s.takeOwnStop level cause) := by
  unfold State.takeOwnStop
  split
  · exact h.enterStopped.raise ..
  · exact h

theorem QueuesSafe.originateStop (h : QueuesSafe s) (level cause : Byte) : QueuesSafe (s.originateStop level cause) :=
  (h.queueTelegram _).takeOwnStop ..

theorem QueuesSafe.autoStop (h : QueuesSafe s) (level cause : Byte) : QueuesSafe (s.autoStop level cause) := by
  unfold State.autoStop
  split
  · exact h
  · exact h.originateStop ..

/-- The station in another state than FAULTED. -/
theorem QueuesSafe.withStation (h : QueuesSafe s) {st : Station} (hst : st.state ≠ .faulted) :
    QueuesSafe { s with station := st } :=
  ⟨h.1.changeState hst, h.2⟩

theorem QueuesSafe.takeResume (h : QueuesSafe s) (src : BitVec 4) : QueuesSafe (s.takeResume src) := by
  unfold State.takeResume
  split
  · split
    · exact (h.withStation (by simp)).raise ..
    · exact h.raise ..
  · exact h

/-! ### The tracking table -/

theorem QueuesSafe.writeEntry (h : QueuesSafe s) (slot : Nat) (f : Entry → Entry) : QueuesSafe (s.writeEntry slot f) := h

theorem QueuesSafe.removeEntry (h : QueuesSafe s) (slot : Nat) : QueuesSafe (s.removeEntry slot) := h

theorem QueuesSafe.refreshTag (h : QueuesSafe s) (tag : Half) : QueuesSafe (s.refreshTag tag) := by
  unfold State.refreshTag
  split <;> exact h

theorem QueuesSafe.requestFlag (h : QueuesSafe s) (f : EntryFlags → EntryFlags) : QueuesSafe (s.requestFlag f) := by
  unfold State.requestFlag
  split <;> exact h

theorem QueuesSafe.unexpected (h : QueuesSafe s) (kind : BitVec 4) (src : Fin 10) (why : FrameReason) (tag : Half) :
    QueuesSafe (s.unexpected kind src why tag) :=
  h.raise ..

theorem QueuesSafe.refusePiece (h : QueuesSafe s) (tag : Half) (r : RefuseReason) : QueuesSafe (s.refusePiece tag r) := h.raise ..

theorem QueuesSafe.raiseAdded (h : QueuesSafe s) (e : Entry) : QueuesSafe (s.raiseAdded e) := h.raise ..

theorem QueuesSafe.withdrawEntry (h : QueuesSafe s) (slot : Nat) (e : Entry) (r : WithdrawReason) :
    QueuesSafe (s.withdrawEntry slot e r) :=
  (h.removeEntry slot).raise ..

theorem QueuesSafe.retireEntry (h : QueuesSafe s) (slot : Nat) (e : Entry) : QueuesSafe (s.retireEntry slot e) :=
  (h.removeEntry slot).raise ..

theorem QueuesSafe.passOver (h : QueuesSafe s) (slot : Nat) : QueuesSafe (s.passOver slot) :=
  List.foldlRecOn _ _ (motive := QueuesSafe) h fun _ hu _ _ => hu.raise ..

theorem QueuesSafe.createEntry (h : QueuesSafe s) {e : Entry} {u : State} (hu : s.createEntry e = .ok u) : QueuesSafe u := by
  obtain ⟨-, v, hv, rfl⟩ := Laws.createEntry_eq e s u hu
  obtain ⟨rfl, -⟩ | ⟨k, d, -, -, rfl⟩ := Laws.makeRoom_eq s v hv
  · exact h
  · exact (h.removeEntry k).raise ..

/-! ### The trim -/

theorem QueuesSafe.retarget (h : QueuesSafe s) (e : Entry) (vd : Half) : QueuesSafe (s.retarget c e vd) := by
  unfold State.retarget
  split
  · dsimp only
    split
    · exact h
    · split
      · exact h
      · exact (h.withTrim _).raise ..
  · exact h

theorem QueuesSafe.track (h : QueuesSafe s) (e : Entry) (vd : Half) : QueuesSafe (s.track c e vd) :=
  (h.withTrim _).retarget e vd

theorem QueuesSafe.trimConfirmed (h : QueuesSafe s) (e : Entry) (vd : Half) : QueuesSafe (s.trimConfirmed c e vd) := by
  unfold State.trimConfirmed
  split
  · exact (h.withTrim _).track e vd
  · exact h

theorem QueuesSafe.holdTrim (h : QueuesSafe s) (tag : Half) (r : HoldReason) : QueuesSafe (s.holdTrim tag r) :=
  (h.withTrim _).raise ..

theorem QueuesSafe.takeSpeedReport (h : QueuesSafe s) (src : Fin 10) (tag speed : Half) :
    QueuesSafe (s.takeSpeedReport c src tag speed) := by
  unfold State.takeSpeedReport
  split
  · exact h
  · split
    · split
      · exact h
      · exact h
      · split
        · exact h.track ..
        · exact h.holdTrim ..
      · split
        · exact h.track ..
        · exact h
    · exact h

theorem QueuesSafe.takeHandoffFault (h : QueuesSafe s) (src : Fin 10) (tag : Half) (code : Byte) :
    QueuesSafe (s.takeHandoffFault c src tag code) := by
  unfold State.takeHandoffFault
  split
  · exact h
  · split
    · have hmarked := h.requestFlag fun f => { f with trimFaultHeld := true }
      dsimp only
      split
      · split
        · exact hmarked.holdTrim ..
        · exact hmarked
      all_goals exact hmarked
    · exact h

theorem QueuesSafe.rampOut (h : QueuesSafe s) : QueuesSafe s.rampOut := by
  obtain ⟨t, ht⟩ := Laws.rampOut_eq s
  rw [ht]; exact h

theorem QueuesSafe.stepTrim (h : QueuesSafe s) : QueuesSafe (s.stepTrim c) := by
  unfold State.stepTrim
  dsimp only
  split
  · exact h
  · exact h
  · exact h
  · split <;> exact h

/-! ### The looper -/

theorem QueuesSafe.looperFault (h : QueuesSafe s) (f : LooperFault) : QueuesSafe (s.looperFault c f) :=
  ((h.queueTelegram _).withLooper _).autoStop ..

theorem QueuesSafe.headLost (h : QueuesSafe s) (tag : Half) (inStand : Bool) : QueuesSafe (s.headLost c tag inStand) := by
  unfold State.headLost
  extract_lets raised queued held
  have hqueued : QueuesSafe queued := ((h.raise ..).setFlag _).queueTelegram _
  have hheld : QueuesSafe held := .ite (hqueued.withLooper _) hqueued
  exact hheld.autoStop ..

theorem QueuesSafe.looperArmPoint (h : QueuesSafe s) (e : Entry) : QueuesSafe (s.looperArmPoint c e) := by
  unfold State.looperArmPoint
  split
  · split <;> exact h
  · exact h

theorem QueuesSafe.looperUnconfirmed (h : QueuesSafe s) : QueuesSafe s.looperUnconfirmed := by
  unfold State.looperUnconfirmed
  split <;> exact h

theorem QueuesSafe.unsupervise (h : QueuesSafe s) (tag why : Half) : QueuesSafe (s.unsupervise tag why) :=
  (h.requestFlag _).raise ..

theorem QueuesSafe.looperConfirmed (h : QueuesSafe s) (e : Entry) : QueuesSafe (s.looperConfirmed c e) := by
  unfold State.looperConfirmed
  split
  · split
    · split
      · exact h
      · exact (h.withLooper _).unsupervise ..
    · split
      · exact h
      · exact (h.withLooper _).unsupervise ..
    · split
      · exact (h.withLooper _).requestFlag _
      · exact h
    · exact h.unsupervise ..
    all_goals exact h
  · exact h

theorem QueuesSafe.regulate (h : QueuesSafe s) : QueuesSafe s.regulate := (h.withLooper _).raise ..

theorem QueuesSafe.riseComplete (h : QueuesSafe s) : QueuesSafe (s.riseComplete c) := by
  unfold State.riseComplete
  split
  · exact h.regulate
  · exact h

theorem QueuesSafe.policeTension (h : QueuesSafe s) (ref tension : Half) : QueuesSafe (s.policeTension c ref tension) := by
  unfold State.policeTension
  split
  · dsimp only
    split
    · exact ((h.raise ..).setFlag _).looperFault _
    · exact h
  · exact h

theorem QueuesSafe.lowerLooper (h : QueuesSafe s) : QueuesSafe (s.lowerLooper c) := by
  obtain ⟨l, t, ht⟩ := Laws.lowerLooper_eq c s
  rw [ht]; exact h

theorem QueuesSafe.looperLoadOff (h : QueuesSafe s) : QueuesSafe (s.looperLoadOff c) := by
  unfold State.looperLoadOff
  split
  · exact h
  · exact h.lowerLooper
  · exact h.lowerLooper
  all_goals exact h

theorem QueuesSafe.lowerComplete (h : QueuesSafe s) : QueuesSafe (s.lowerComplete c) := by
  unfold State.lowerComplete
  dsimp only
  split
  · split
    · exact (h.withLooper _).raise ..
    · split <;> exact h
  · exact h

theorem QueuesSafe.looperSample (h : QueuesSafe s) (x : Sample) : QueuesSafe (s.looperSample c x) := by
  unfold State.looperSample
  split
  · split
    · split
      · exact h.riseComplete
      · exact h
    · split
      · exact h.policeTension ..
      · exact h
    · split
      · exact h.lowerComplete
      · exact h
    all_goals exact h
  · exact h

theorem QueuesSafe.looperSampleLoss (h : QueuesSafe s) : QueuesSafe (s.looperSampleLoss c) := by
  unfold State.looperSampleLoss
  split
  · exact h.looperFault _
  · exact h.looperFault _
  · exact h.looperFault _
  all_goals exact h

/-! ### Marks -/

theorem QueuesSafe.windowExpired (h : QueuesSafe s) (slot : Nat) (e : Entry) : QueuesSafe (s.windowExpired c slot e) := by
  unfold State.windowExpired
  split
  · split
    · have hgap := (h.writeEntry slot fun e => { e with downstream := .unconfirmed }).raise .headUnconfirmed e.tag 0
      dsimp only
      split
      · exact hgap.looperUnconfirmed
      · exact hgap
    · exact (h.writeEntry ..).headLost ..
  · exact h

theorem QueuesSafe.reportMark (h : QueuesSafe s) (slot : Nat) (m : Mark) : QueuesSafe (s.reportMark c slot m) := by
  unfold State.reportMark
  split
  · exact h
  · have hreached := h.withTable (s.table.modify slot (Entry.reach m))
    cases m <;> dsimp only
    · split
      · exact hreached.looperArmPoint _
      · exact hreached
    · split
      · exact hreached.writeEntry ..
      · exact hreached
    · exact hreached.windowExpired ..
    · split
      · exact hreached.lowerLooper.rampOut
      · exact hreached
    · split
      · exact hreached.raise ..
      · exact hreached

theorem QueuesSafe.reportMarks (h : QueuesSafe s) (slot : Nat) (ms : List Mark) : QueuesSafe (s.reportMarks c slot ms) :=
  List.foldlRecOn _ _ (motive := QueuesSafe) h fun _ hu m _ => hu.reportMark slot m

theorem QueuesSafe.evaluateEntry (h : QueuesSafe s) (slot : Nat) : QueuesSafe (s.evaluateEntry c slot) := by
  unfold State.evaluateEntry
  split
  · exact h
  · exact h.reportMarks ..

theorem QueuesSafe.evaluateMarks (h : QueuesSafe s) : QueuesSafe (s.evaluateMarks c) :=
  List.foldlRecOn _ _ (motive := QueuesSafe) h fun _ hu slot _ => hu.evaluateEntry slot

/-! ### The tracking engine -/

theorem QueuesSafe.takePieceEntry (h : QueuesSafe s) (src : Fin 10) (r : PieceRecord) :
    QueuesSafe (s.takePieceEntry c src r) := by
  unfold State.takePieceEntry
  split
  · exact (h.refreshTag _).unexpected ..
  · split
    · exact h.refusePiece ..
    · dsimp only
      split
      · exact (h.refreshTag _).refusePiece ..
      · exact h.refusePiece ..
      · rename_i hu
        exact (h.createEntry hu).raiseAdded _

theorem QueuesSafe.takePieceWithdraw (h : QueuesSafe s) (src : Fin 10) (tag : Half) :
    QueuesSafe (s.takePieceWithdraw src tag) := by
  unfold State.takePieceWithdraw
  split
  · exact (h.refreshTag _).unexpected ..
  · split
    · exact h.unexpected ..
    · split
      · exact h
      · split
        · exact h.withdrawEntry ..
        · exact (h.refreshTag _).unexpected ..

theorem QueuesSafe.takeUpstreamBite (h : QueuesSafe s) (src : Fin 10) (tag : Half) : QueuesSafe (s.takeUpstreamBite src tag) := by
  unfold State.takeUpstreamBite
  split
  · exact h.unexpected ..
  · split
    · exact h
    · split
      · dsimp only
        split
        · exact (h.passOver _).writeEntry ..
        · exact h.passOver _
      · exact (h.refreshTag _).unexpected ..

theorem QueuesSafe.tailApproaches (h : QueuesSafe s) (slot : Nat) : QueuesSafe (s.tailApproaches c slot) := by
  unfold State.tailApproaches
  dsimp only
  split
  · exact h.writeEntry ..
  · exact (h.writeEntry ..).reportMarks ..

theorem QueuesSafe.tailSeenAt (h : QueuesSafe s) (slot : Nat) : QueuesSafe (s.tailSeenAt slot) := h

theorem QueuesSafe.takeNamedTail (h : QueuesSafe s) (src : Fin 10) (tag : Half) (slot : Nat) (e : Entry) :
    QueuesSafe (s.takeNamedTail src tag slot e) := by
  unfold State.takeNamedTail
  split
  · split
    · exact (h.refreshTag _).unexpected ..
    · exact h.tailSeenAt _
  · dsimp only
    split
    · exact ((h.passOver _).tailSeenAt _).unexpected ..
    · exact h.passOver _
  all_goals exact (h.refreshTag _).unexpected ..

theorem QueuesSafe.takeUnnamedTail (h : QueuesSafe s) (src : Fin 10) (tag : Half) : QueuesSafe (s.takeUnnamedTail src tag) := by
  unfold State.takeUnnamedTail
  split
  · exact h.unexpected ..
  · split
    · exact h
    · split
      · exact (h.writeEntry ..).unexpected ..
      · exact (h.tailSeenAt _).unexpected ..

theorem QueuesSafe.takeUpstreamTail (h : QueuesSafe s) (src : Fin 10) (tag : Half) :
    QueuesSafe (s.takeUpstreamTail c src tag) := by
  unfold State.takeUpstreamTail
  split
  · dsimp only
    split
    · exact (h.tailApproaches _).unexpected ..
    · exact h.tailApproaches _
  · split
    · split
      · exact h
      · exact h.takeNamedTail ..
    · exact h.takeUnnamedTail ..

theorem QueuesSafe.confirmEntry (h : QueuesSafe s) (slot : Nat) (e : Entry) (tag speed : Half) :
    QueuesSafe (s.confirmEntry c slot e tag speed) := by
  unfold State.confirmEntry
  extract_lets mismatch written reported told
  have hwritten : QueuesSafe written := h.writeEntry ..
  have hreported : QueuesSafe reported := .ite (hwritten.raise ..) hwritten
  have htold : QueuesSafe told := by
    dsimp only [told]
    split
    · exact hreported.raise ..
    · exact hreported.raise ..
    all_goals exact hreported
  split
  · split
    · exact htold
    · exact (htold.looperConfirmed _).trimConfirmed ..
  · exact htold

theorem QueuesSafe.takeBiteByOrder (h : QueuesSafe s) (src : Fin 10) (tag speed : Half) :
    QueuesSafe (s.takeBiteByOrder c src tag speed) := by
  unfold State.takeBiteByOrder
  split
  · exact h.unexpected ..
  · split
    · exact h
    · exact h.confirmEntry ..

theorem QueuesSafe.takeDownstreamBite (h : QueuesSafe s) (src : Fin 10) (tag speed : Half) :
    QueuesSafe (s.takeDownstreamBite c src tag speed) := by
  unfold State.takeDownstreamBite
  split
  · exact h.takeBiteByOrder ..
  · split
    · exact h
    · split
      case h_5 => exact (h.refreshTag _).raise ..
      case h_6 => exact (h.refreshTag _).unexpected ..
      case h_7 => exact (h.refreshTag _).takeBiteByOrder ..
      all_goals exact h.confirmEntry ..

theorem QueuesSafe.takeDownstreamTail (h : QueuesSafe s) (src : Fin 10) (tag : Half) :
    QueuesSafe (s.takeDownstreamTail src tag) := by
  unfold State.takeDownstreamTail
  split
  · split
    · exact h
    · split
      · exact h.retireEntry ..
      · exact (h.refreshTag _).unexpected ..
  · split
    · exact h.unexpected ..
    · split
      · exact h
      · exact h.retireEntry ..

theorem QueuesSafe.takeHeadBite (h : QueuesSafe s) (src : Fin 10) (tag : Half) (anonymous : Bool) (speed : Half) :
    QueuesSafe (s.takeHeadBite c src tag anonymous speed) :=
  .ite (h.takeUpstreamBite ..) (.ite (h.takeDownstreamBite ..) h)

theorem QueuesSafe.takeTailOut (h : QueuesSafe s) (src : Fin 10) (tag : Half) (anonymous : Bool) :
    QueuesSafe (s.takeTailOut c src tag anonymous) :=
  .ite (h.takeUpstreamTail ..) (.ite (h.takeDownstreamTail ..) h)

theorem QueuesSafe.takeGapNotice (h : QueuesSafe s) (src : Fin 10) : QueuesSafe (s.takeGapNotice src) := .ite h h

theorem QueuesSafe.beginVerification (h : QueuesSafe s) (e : Entry) (b : BiteReport) : QueuesSafe (s.beginVerification c e b) := by
  unfold State.beginVerification
  split
  · exact .ite h h
  · exact h

theorem QueuesSafe.biteEntry (h : QueuesSafe s) (slot : Nat) (e : Entry) (candidate : Half) (b : BiteReport) :
    QueuesSafe (s.biteEntry c slot e candidate b) := by
  unfold State.biteEntry
  extract_lets status written queued bitten _ timed verifying
  have hbitten : QueuesSafe bitten := ((h.writeEntry ..).queueTelegram _).raise ..
  have htimed : QueuesSafe timed := .ite (hbitten.withTrim _) hbitten
  exact ((htimed.beginVerification e b).writeEntry ..).evaluateEntry slot

theorem QueuesSafe.takeBite (h : QueuesSafe s) (b : BiteReport) : QueuesSafe (s.takeBite c b) := by
  unfold State.takeBite
  split
  · split
    · exact h
    · exact h.biteEntry ..
  · split
    · split
      · exact h
      · exact (QueuesSafe.ite h (h.raise ..)).biteEntry ..
    · split
      · exact h.refusePiece ..
      · rename_i hu
        exact ((h.createEntry hu).raise ..).biteEntry ..

theorem QueuesSafe.takeTail (h : QueuesSafe s) (p1 : Word) : QueuesSafe (s.takeTail c p1) := by
  unfold State.takeTail
  split
  · exact h
  · split
    · exact h
    · extract_lets early gone queued told lowered
      have hgone : QueuesSafe gone := .ite (h.writeEntry ..) (h.retireEntry ..)
      have hqueued : QueuesSafe queued := hgone.queueTelegram _
      have htold : QueuesSafe told := by
        dsimp only [told]
        cases early with
        | none => exact hqueued.raise ..
        | some d => exact hqueued.raise ..
      exact htold.looperLoadOff.withTrim _

theorem QueuesSafe.takeVerification (h : QueuesSafe s) (firstOut secondOut : Bool) :
    QueuesSafe (s.takeVerification firstOut secondOut) := by
  unfold State.takeVerification
  split
  · exact .ite (((h.writeEntry ..).raise ..).rampOut) (h.writeEntry ..)
  · exact h

/-! ### The load detector and the samples -/

theorem QueuesSafe.confirmBite (h : QueuesSafe s) (b : BiteReport) : QueuesSafe (s.confirmBite c b) :=
  .ite ((h.withDetector _).takeBite b) h

theorem QueuesSafe.confirmTail (h : QueuesSafe s) (p1 : Word) : QueuesSafe (s.confirmTail c p1) :=
  .ite ((h.withDetector _).takeTail p1) h

theorem QueuesSafe.detect (h : QueuesSafe s) (x : Sample) : QueuesSafe (s.detect c x) := by
  unfold State.detect
  dsimp only
  split
  · exact .ite h h
  · exact .ite (.ite (h.confirmBite _) (.ite (h.confirmBite _) h)) h
  · exact .ite h h
  · exact .ite h (.ite (h.confirmTail _) h)

theorem QueuesSafe.verifySample (h : QueuesSafe s) (x : Sample) : QueuesSafe (s.verifySample c x) := by
  unfold State.verifySample
  split
  · exact h
  · exact .ite ((h.withDetector _).takeVerification ..) h

theorem QueuesSafe.detectorSample (h : QueuesSafe s) (x : Sample) : QueuesSafe (s.detectorSample c x) :=
  .ite ((h.verifySample x).detect x) h

theorem QueuesSafe.blocksTake (h : QueuesSafe s) (x : Sample) : QueuesSafe (s.blocksTake x) := by
  unfold State.blocksTake
  split
  · exact ((h.detectorSample x).looperSample x).stepTrim
  · exact h

theorem QueuesSafe.takeSample (h : QueuesSafe s) (x : Sample) : QueuesSafe (s.takeSample x) := by
  have hresumed : QueuesSafe (if s.stand.sampleLoss then s.samplesResume else s) := .ite ((h.withStand _).raise ..) h
  exact ((hresumed.withStand _).blocksTake x).withStand _

theorem QueuesSafe.takePulse (h : QueuesSafe s) (ch : Channel) : QueuesSafe (s.takePulse ch) := by
  have hresumes : QueuesSafe s.encoderResumes := by
    unfold State.encoderResumes
    dsimp only
    split <;> exact (h.withStand _).raise ..
  have hresumed : QueuesSafe (if s.stand.encoderStall then s.encoderResumes else s) := .ite hresumes h
  unfold State.takePulse
  dsimp only
  split
  · exact (hresumed.withStand _).evaluateMarks
  · exact hresumed.withStand _

/-! ### Neighbour acquisition -/

theorem QueuesSafe.mapLine (h : QueuesSafe s) (src : Fin 10) (f : AcqLine → AcqLine) : QueuesSafe (s.mapLine src f) := h

theorem QueuesSafe.queueLinkingAnnounce (h : QueuesSafe s) : QueuesSafe (s.queueLinkingAnnounce c) := h.queueTelegram _

theorem QueuesSafe.countAgreement (h : QueuesSafe s) (src : Fin 10) (l : AcqLine) : QueuesSafe (s.countAgreement c src l) := by
  unfold State.countAgreement
  split
  · exact .ite (h.mapLine ..).queueLinkingAnnounce (h.mapLine ..)
  all_goals exact h

theorem QueuesSafe.enterRunning (h : QueuesSafe s) : QueuesSafe s.enterRunning :=
  (h.withStation (st := { s.station with state := .running, announceTimer := none, linkTimer := none })
    StationState.noConfusion).raise ..

theorem QueuesSafe.examineHeard (h : QueuesSafe s) (src : Fin 10) (a : Announce) : QueuesSafe (s.examineHeard src a) := by
  unfold State.examineHeard
  split
  · exact h
  · exact .ite (.ite (h.mapLine ..).enterRunning (h.mapLine ..)) h

theorem QueuesSafe.takeAnnounce (h : QueuesSafe s) (src : Fin 10) (a : Announce) : QueuesSafe (s.takeAnnounce src a) := by
  have hlinking (c : ConfigRecord) (l : AcqLine) : QueuesSafe (s.announceWhileLinking c src l a) :=
    .ite (h.enterFaulted ..) (.ite (h.enterFaulted ..) ((h.countAgreement src l).examineHeard src a))
  have hrunning (c : ConfigRecord) (l : AcqLine) : QueuesSafe (s.announceWhileRunning c src l a) := by
    have hreplied : QueuesSafe (if a.linking then (s.queueReplyAnnounce c).raise .neighbourRejoined 0 (BitVec.ofNat 16 src.val)
        else s) := .ite ((h.queueTelegram _).raise ..) h
    exact .ite (hreplied.raise ..) (.ite (hreplied.raise ..) hreplied)
  unfold State.takeAnnounce
  split
  · split
    · exact hlinking ..
    · exact hrunning ..
    · exact hrunning ..
    all_goals exact h
  · exact h

/-! ### Reception -/

/-- Within the good count's range, the bus unit may end SILENT (R44, R45). -/
theorem QueuesSafe.leaveSilent (h : QueuesSafe s) (why : Half) : QueuesSafe (s.leaveSilent why) := by
  refine QueuesSafe.raise (s := { s with bus := { s.bus with state := .active, failures := 0, good := 0 } }) ?_ ..
  exact h.of_bus (h.1.recount (fun d => by cases d <;> rfl) rfl BusState.noConfusion h.1.line (by simp [Bus.Counted]))

/-- The consecutive-good count may start again (R52). -/
theorem BusOk.restartGood {st : StationState} {b : Bus} (h : BusOk st b) (k : Counters) :
    BusOk st { b with good := 0, counters := k } := by
  refine h.recount (fun d => by cases d <;> rfl) rfl id h.line ?_
  obtain ⟨hactive, hsilent, -⟩ := h.counted
  exact ⟨hactive, fun hs => ⟨(hsilent hs).1, Nat.zero_le _⟩, Nat.zero_le _⟩

theorem QueuesSafe.countGood (h : QueuesSafe s) : QueuesSafe s.countGood := by
  obtain ⟨hactive, hsilent, hgood⟩ := h.1.counted
  unfold State.countGood
  dsimp only
  split
  · refine QueuesSafe.leaveSilent (s := { s with bus := { s.bus with good := 0 } }) ?_ 0
    exact h.of_bus (h.1.restartGood s.bus.counters)
  · rename_i hends
    refine h.of_bus (h.1.recount (fun d => by cases d <;> rfl) rfl id h.1.line ⟨hactive, fun hs => ?_, ?_⟩)
    · have hless : min goodLimit (s.bus.good + 1) ≠ goodLimit := fun he => hends ⟨hs, he⟩
      exact ⟨(hsilent hs).1, by simp only [goodLimit] at hless ⊢; omega⟩
    · exact Nat.min_le_left ..

/-- Counters and expectations are not spoken of. -/
theorem QueuesSafe.recount (h : QueuesSafe s) (k : Counters) (x : Vector (Option Byte) 10) :
    QueuesSafe { s with bus := { s.bus with counters := k, expect := x } } :=
  h.of_bus (h.1.recount (fun d => by cases d <;> rfl) rfl id h.1.line h.1.counted)

theorem QueuesSafe.reportGap (h : QueuesSafe s) (src : Fin 10) (missed : Nat) : QueuesSafe (s.reportGap src missed) :=
  have hcounted := (h.recount { s.bus.counters with seqGaps := satAdd s.bus.counters.seqGaps missed } s.bus.expect).raise
    .seqGap 0 (detail (byteOf src.val) (byteOf missed))
  .ite (QueuesSafe.takeGapNotice (.ite (hcounted.mapLine ..) hcounted) src) hcounted

/-- The end of a frame: the line is idle after it, unless the station's own attempt is on it. -/
theorem QueuesSafe.atFrameEnd (h : QueuesSafe s) {take : State → State} (htake : ∀ u, QueuesSafe u → QueuesSafe (take u)) :
    QueuesSafe (s.atFrameEnd take) := by
  rw [Laws.atFrameEnd_eq]
  split
  · rename_i hlost
    refine h.of_bus (h.1.recount (fun d => by cases d <;> rfl) rfl id (fun ha => ?_) h.1.counted)
    exact absurd (h.1.line ha) (by simp [hlost])
  · refine htake _ (h.of_bus (h.1.recount (fun d => by cases d <;> rfl) rfl id (fun ha => ?_) h.1.counted))
    exact (if_pos ha).trans (h.1.line ha)

/-- A good telegram that a block takes safely is received safely. -/
theorem QueuesSafe.receive (h : QueuesSafe s) (src : Fin 10) (seq : Byte) (linking : Bool) {take : State → State}
    (htake : ∀ u, QueuesSafe u → QueuesSafe (take u)) : QueuesSafe (s.receive src seq linking take) := by
  have hdispatch {u : State} (hu : QueuesSafe u) : QueuesSafe (u.dispatch take) := .ite (htake u hu) hu
  have hgood {u : State} (hu : QueuesSafe u) : QueuesSafe (u.countRxGood.setExpect src seq) := hu.recount ..
  have hframe {u : State} (hu : QueuesSafe u) : QueuesSafe (u.takeTelegram src seq linking take) := by
    unfold State.takeTelegram
    dsimp only
    split
    · exact .ite (QueuesSafe.enterFaulted (hu.countGood.recount _ u.countGood.bus.expect) ..)
        (hu.countGood.recount _ u.countGood.bus.expect)
    · split
      · exact hu.countGood.recount _ u.countGood.bus.expect
      · exact hdispatch (hgood hu.countGood)
      · exact hdispatch ((hgood hu.countGood).reportGap ..)
  exact h.atFrameEnd fun u hu => hframe hu

theorem QueuesSafe.whenRunning (h : QueuesSafe s) {take : ConfigRecord → State → State}
    (htake : ∀ c, QueuesSafe (take c s)) : QueuesSafe (s.whenRunning take) := by
  unfold State.whenRunning
  split
  · exact .ite (htake _) h
  · exact h

theorem QueuesSafe.takeStop (h : QueuesSafe s) (src : Fin 10) (level cause : Byte) : QueuesSafe (s.takeStop src level cause) :=
  h.whenRunning fun _ => .ite (h.enterStopped.raise ..) (h.raise ..)

/-! ### Attempts -/

/-- The telegram that the bus unit would send heads the queue of its class. -/
theorem queue_of_head {b : Bus} {cls : TxClass} {q : Queued} (h : b.head = some (cls, q)) : ∃ rest, b.queue cls = q :: rest := by
  unfold Bus.head at h
  split at h <;> cases h <;> exact ⟨_, by assumption⟩

theorem QueuesSafe.lineIdle (h : QueuesSafe s) (slots : Nat) : QueuesSafe (s.lineIdle slots) := by
  unfold State.lineIdle
  split
  · exact h
  · rename_i hnone
    have hidle (n : Fin 44) : QueuesSafe (s.withLine (.idle n)) :=
      h.of_bus (h.1.recount (fun d => by cases d <;> rfl) rfl id (fun ha => absurd ha hnone) h.1.counted)
    obtain ⟨n, hn⟩ : ∃ n, s.bus.line.nowIdle = .idle n := by cases s.bus.line <;> exact ⟨_, rfl⟩
    rw [hn]
    rcases Laws.slotsPass_eq slots n s with ⟨-, hpass⟩ | ⟨k, cls, q, -, -, hdue, -, hpass⟩
    · rw [hpass]; exact hidle _
    · rw [hpass]
      unfold State.dueAtSlot at hdue
      split at hdue
      · rename_i hhead
        split at hdue
        · rename_i hactive
          cases hdue
          obtain ⟨rest, hrest⟩ := queue_of_head hhead
          exact h.of_bus (h.1.begin hactive.1 hrest)
        · cases hdue
      · cases hdue

theorem QueuesSafe.attemptSucceeds (h : QueuesSafe s) : QueuesSafe s.attemptSucceeds := by
  unfold State.attemptSucceeds
  split
  · exact h
  · rename_i a ha
    obtain ⟨hactive, hst⟩ := h.1.awake (.inl (by simp [ha]))
    have hgood : s.bus.good ≤ 64 := h.1.counted.2.2
    have hend : BusOk s.station.state { s.bus with attempt := none, line := .idle 0, failures := 0 } :=
      h.1.endAttempt (fun d => by cases d <;> rfl) rfl rfl ⟨fun _ => Nat.zero_le _, by simp [hactive], hgood⟩
    refine h.of_bus ?_
    dsimp only
    split
    · have htail := hend.tail hactive hst rfl a.cls
      cases hcls : a.cls <;> rw [hcls] at htail <;>
        exact htail.recount (fun d => by cases d <;> rfl) rfl id (by simp) hend.counted
    · exact hend.recount (fun d => by cases d <;> rfl) rfl id (by simp) hend.counted

theorem QueuesSafe.failTelegram (h : QueuesSafe s) (a : Attempt) (hattempt : s.bus.attempt = none) (hactive : s.bus.state = .active)
    (hst : s.station.state ≠ .faulted) : QueuesSafe (s.failTelegram a) := by
  unfold State.failTelegram
  split
  · split
    · exact h
    · rename_i q rest hq
      split
      · have htail := h.1.tail hactive hst hattempt a.cls
        rw [hq] at htail
        exact (h.of_bus htail).dropTelegram ..
      · rename_i hfailed
        exact h.of_bus (h.1.retry hactive hst hattempt hq (Nat.not_le.1 hfailed))
  · exact h

/-- What a failed attempt does to its telegram leaves the line and the counts of failures alone. -/
theorem failTelegram_frame (s : State) (a : Attempt) :
    (s.failTelegram a).bus.attempt = s.bus.attempt ∧ (s.failTelegram a).bus.failures = s.bus.failures := by
  unfold State.failTelegram
  split
  · split
    · exact ⟨rfl, rfl⟩
    · split
      · exact ⟨by simp, by simp⟩
      · exact ⟨by simp, by simp⟩
  · exact ⟨rfl, rfl⟩

theorem failTelegram_events (h : s.host.events.length ≤ eventRoom) (a : Attempt) :
    (s.failTelegram a).host.events.length ≤ eventRoom := by
  unfold State.failTelegram
  split
  · split
    · exact h
    · split
      · exact Laws.raise_within_room _ _ h
      · exact h
  · exact h

theorem QueuesSafe.attemptFails (h : QueuesSafe s) : QueuesSafe s.attemptFails := by
  unfold State.attemptFails
  split
  · exact h
  · rename_i a ha
    obtain ⟨hactive, hst⟩ := h.1.awake (.inl (by simp [ha]))
    obtain ⟨hcount, -, hgood⟩ := h.1.counted
    have hfailures := hcount hactive
    extract_lets _ _ failed u
    obtain ⟨hattempt, hkept⟩ := failTelegram_frame failed a
    split
    · rename_i hlimit
      have hcount16 : u.bus.failures = 16 := by
        have hu : u.bus.failures = s.bus.failures + 1 := hkept
        simp only [failureLimit] at hlimit
        omega
      have hsilent : BusOk u.station.state u.enterSilent.bus :=
        BusOk.of_empty (fun cls => by cases cls <;> rfl) hattempt
          ⟨BusState.noConfusion, fun _ => ⟨hcount16, Nat.zero_le _⟩, Nat.zero_le _⟩
      exact ⟨hsilent, Laws.raise_within_room _ _ (failTelegram_events (s := failed) h.2 a)⟩
    · rename_i hlimit
      have hfew : s.bus.failures + 1 ≤ 15 := Nat.le_of_lt_succ (Nat.not_le.1 fun hle => hlimit (hkept ▸ hle))
      exact QueuesSafe.failTelegram (s := failed) (h.of_bus (h.1.endAttempt (fun d => by cases d <;> rfl) rfl rfl
        ⟨fun _ => hfew, fun hs => absurd (hactive.symm.trans hs) BusState.noConfusion, hgood⟩)) a rfl hactive hst

/-! ### Expiries and the tick -/

theorem QueuesSafe.latestField (h : QueuesSafe s) (f : Sample → Half) : QueuesSafe (s.latestField f).2 := by
  unfold State.latestField
  split <;> exact h

theorem QueuesSafe.looperTimeout (h : QueuesSafe s) (kind : EventKind) (flag : LatchedFlag) (f : LooperFault) :
    QueuesSafe (s.looperTimeout c kind flag f) :=
  (((h.latestField Sample.angle).raise ..).setFlag _).looperFault f

theorem QueuesSafe.tick (h : QueuesSafe s) : QueuesSafe s.tick := by
  refine ⟨h.1.recount (fun d => by cases d <;> rfl) rfl id (fun ha => ?_) h.1.counted, h.2⟩
  show s.bus.line.tick = .busy
  rw [h.1.line ha]
  rfl

/-! ### The host port -/

theorem QueuesSafe.resetTo (strap : BitVec 4) (a b : Bool) : QueuesSafe (s.resetTo strap a b) :=
  ⟨BusOk.of_empty (fun cls => by cases cls <;> rfl) rfl ⟨fun _ => Nat.zero_le _, BusState.noConfusion, Nat.zero_le _⟩,
    Nat.zero_le _⟩

theorem QueuesSafe.respond (h : QueuesSafe s) (status : Status) (data : List Byte) : QueuesSafe (s.respond status data) := h

theorem QueuesSafe.refuse (h : QueuesSafe s) (status : Status) : QueuesSafe (s.refuse status) := h

/-- A host command is safe where what it does after its length test is. -/
theorem QueuesSafe.command (h : QueuesSafe s) (ok : Bool) {take : State → State} (htake : ∀ u, QueuesSafe u → QueuesSafe (take u)) :
    QueuesSafe (s.command ok take) := by
  have hopen : QueuesSafe s.openTransaction := by
    have hreset : QueuesSafe (if s.host.softResetDue then s.resetTo s.strap s.stand.encA s.stand.encB else s) := .ite (.resetTo ..) h
    exact hreset
  exact .ite (htake _ hopen) hopen

theorem QueuesSafe.configWrite (h : QueuesSafe s) (args : List Byte) : QueuesSafe (s.configWrite args) := by
  unfold State.configWrite
  split
  · rename_i hstate
    dsimp only
    split
    · exact h.withStation (by simp [hstate])
    · exact h
  · exact h

theorem QueuesSafe.startCommand (h : QueuesSafe s) : QueuesSafe s.startCommand := by
  have haccept (c : ConfigRecord) : QueuesSafe (s.accept c) := by
    have hstarted : QueuesSafe { s with station := { s.station with
        state := .linking, lines := requiredLines c s.station.position
        announceTimer := some c.announcePeriod.toNat, linkTimer := some c.linkTimeoutMs } } := h.withStation StationState.noConfusion
    exact (hstarted.withStand _).queueTelegram _
  unfold State.startCommand
  split
  · exact h
  · split
    · exact h
    · split
      · exact h
      · exact .ite (haccept _) h

theorem QueuesSafe.insertPiece (h : QueuesSafe s) (origin : Origin) (queued : Option Telegram) (r : PieceRecord) :
    QueuesSafe (s.insertPiece c origin queued r) := by
  have hrefuse (r' : RefuseReason) : QueuesSafe (s.refuseRecord r.tag r') := by
    cases r' <;> exact h.refusePiece r.tag _
  unfold State.insertPiece
  split
  · exact hrefuse _
  · dsimp only
    split
    · exact hrefuse _
    · rename_i hu
      cases queued with
      | none => exact (h.createEntry hu).raiseAdded _
      | some t => exact ((h.createEntry hu).raiseAdded _).queueTelegram t

theorem QueuesSafe.pieceAnnounce (h : QueuesSafe s) (r : PieceRecord) : QueuesSafe (s.pieceAnnounce r) := by
  unfold State.pieceAnnounce
  split
  · exact h
  · split
    · exact .ite (h.insertPiece ..) h
    · exact h

theorem QueuesSafe.trackInsert (h : QueuesSafe s) (r : PieceRecord) : QueuesSafe (s.trackInsert r) := by
  unfold State.trackInsert
  split
  · exact .ite (h.insertPiece ..) h
  · exact h

theorem QueuesSafe.pieceWithdraw (h : QueuesSafe s) (tag : Half) : QueuesSafe (s.pieceWithdraw tag) := by
  unfold State.pieceWithdraw
  split
  · exact h
  · split
    · exact h
    · split
      · exact h
      · split
        · exact h
        · exact .ite ((h.withdrawEntry ..).queueTelegram _) h

theorem QueuesSafe.trackRemove (h : QueuesSafe s) (tag : Half) : QueuesSafe (s.trackRemove tag) := by
  unfold State.trackRemove
  split
  · exact h
  · split
    · exact h
    · split
      · exact h
      · exact .ite h (h.withdrawEntry ..)

theorem QueuesSafe.returnEntry (h : QueuesSafe s) (slot : Nat) : QueuesSafe (s.returnEntry slot) := by
  unfold State.returnEntry
  split <;> exact h

theorem QueuesSafe.trackFind (h : QueuesSafe s) (tag : Half) : QueuesSafe (s.trackFind tag) := by
  unfold State.trackFind
  split
  · exact h.returnEntry _
  · exact h

theorem QueuesSafe.readEvent (h : QueuesSafe s) : QueuesSafe s.readEvent := by
  unfold State.readEvent
  split <;> exact h

theorem QueuesSafe.relink (h : QueuesSafe s) : QueuesSafe s.relink := .ite (h.leaveSilent 1) h

theorem QueuesSafe.resumeCommand (h : QueuesSafe s) : QueuesSafe s.resumeCommand :=
  .ite ((h.queueTelegram _).takeResume _) h

theorem QueuesSafe.stopCommand (h : QueuesSafe s) (level : Byte) : QueuesSafe (s.stopCommand level) :=
  .ite h (.ite (h.originateStop ..) h)

theorem QueuesSafe.releaseLooper (h : QueuesSafe s) : QueuesSafe s.releaseLooper := .ite h (.ite h (.ite h h))

theorem QueuesSafe.readCounters (h : QueuesSafe s) : QueuesSafe s.readCounters :=
  (h.recount Counters.zero s.bus.expect).withStand _

theorem QueuesSafe.clearFlags (h : QueuesSafe s) (mask : Half) : QueuesSafe (s.clearFlags mask) := .ite h h

end Operations

/-! ### Every command and every step -/

/-- A next state is safe. -/
def NextSafe (o : Host.Outcome State Fault Refusal) : Prop := ∀ t, o = .next t → QueuesSafe t

theorem nextSafe_next {t : State} (h : QueuesSafe t) : NextSafe (.next t) := fun _ ht => Host.Outcome.next.inj ht ▸ h

theorem NextSafe.ite {p : Prop} [Decidable p] {u v : State} (hu : QueuesSafe u) (hv : QueuesSafe v) :
    NextSafe (if p then .next u else .next v) := by
  split
  · exact nextSafe_next hu
  · exact nextSafe_next hv

section Commands

variable {s : State}

/-- The host commands (R168). -/
theorem nextSafe_command (h : QueuesSafe s) (ok : Bool) {take : State → State} (htake : ∀ u, QueuesSafe u → QueuesSafe (take u)) :
    NextSafe (.next (s.command ok take)) :=
  nextSafe_next (h.command ok htake)

theorem nextSafe_pieceAnnounce (h : QueuesSafe s) (args : List Byte) : NextSafe (execPieceAnnounce args s) := by
  unfold execPieceAnnounce
  split
  · exact nextSafe_command h _ fun _ hu => hu.pieceAnnounce _
  · exact nextSafe_command h _ fun _ hu => hu

theorem nextSafe_trackInsert (h : QueuesSafe s) (args : List Byte) : NextSafe (execTrackInsert args s) := by
  unfold execTrackInsert
  split
  · exact nextSafe_command h _ fun _ hu => hu.trackInsert _
  · exact nextSafe_command h _ fun _ hu => hu

theorem nextSafe_eventRecordClockedOut (h : QueuesSafe s) : NextSafe (execEventRecordClockedOut s) := by
  unfold execEventRecordClockedOut
  split
  · refine nextSafe_next ⟨h.1, ?_⟩
    have := h.2
    simp only [List.length_tail]
    omega
  · exact nextSafe_next h
  · exact nextSafe_next h

/-- The telegrams received (R48 to R52), each by what the block it is dispatched to does with it. -/
theorem nextSafe_received (h : QueuesSafe s) (src : Fin 10) (seq : Byte) (t : Telegram) : NextSafe (exec (t.received src seq) s) := by
  cases t with
  | announce a => exact nextSafe_next (h.receive src seq _ fun _ hu => hu.takeAnnounce src a)
  | pieceEntry r => exact nextSafe_next (h.receive src seq _ fun _ hu => hu.whenRunning fun _ => hu.takePieceEntry src r)
  | pieceWithdraw tag => exact nextSafe_next (h.receive src seq _ fun _ hu => hu.whenRunning fun _ => hu.takePieceWithdraw src tag)
  | headBite tag anonymous speed =>
    exact nextSafe_next (h.receive src seq _ fun _ hu => hu.whenRunning fun _ => hu.takeHeadBite src tag anonymous speed)
  | tailOut tag anonymous =>
    exact nextSafe_next (h.receive src seq _ fun _ hu => hu.whenRunning fun _ => hu.takeTailOut src tag anonymous)
  | speedReport tag speed =>
    exact nextSafe_next (h.receive src seq _ fun _ hu => hu.whenRunning fun _ => hu.takeSpeedReport src tag speed)
  | handoffFault tag code =>
    exact nextSafe_next (h.receive src seq _ fun _ hu => hu.whenRunning fun _ => hu.takeHandoffFault src tag code)
  | trainStop level cause => exact nextSafe_next (h.receive src seq _ fun _ hu => hu.takeStop src level cause)
  | trainResume => exact nextSafe_next (h.receive src seq _ fun _ hu => hu.takeResume _)

theorem nextSafe_rxFailedReception (h : QueuesSafe s) (why : ReceptionFailure) : NextSafe (execRxFailedReception why s) :=
  nextSafe_next (h.atFrameEnd fun _ hu => hu.of_bus (hu.1.restartGood _))

theorem nextSafe_rxMalformed (h : QueuesSafe s) (why : Malformation) : NextSafe (execRxMalformed why s) :=
  nextSafe_next (h.atFrameEnd fun _ hu => hu.of_bus (hu.1.restartGood _))

theorem nextSafe_announceTimerExpiry (h : QueuesSafe s) : NextSafe (execAnnounceTimerExpiry s) := by
  unfold execAnnounceTimerExpiry
  split
  · split
    · rename_i hlinking
      exact nextSafe_next (h.withStation (by simp [hlinking.1])).queueLinkingAnnounce
    · exact nextSafe_next h
  · exact nextSafe_next h

theorem nextSafe_linkTimeout (h : QueuesSafe s) : NextSafe (execLinkTimeout s) := by
  unfold execLinkTimeout
  split
  · split
    · rename_i hlinking
      exact nextSafe_next ((h.withStation (by simp [hlinking.1])).raise ..)
    · exact nextSafe_next h
  · exact nextSafe_next h

theorem nextSafe_sampleRecord (h : QueuesSafe s) (bytes : List Byte) : NextSafe (execSampleRecord bytes s) := by
  unfold execSampleRecord
  split
  · split
    · exact nextSafe_next (h.withStand _)
    · exact nextSafe_next (h.takeSample _)
  · exact nextSafe_next h

theorem nextSafe_sampleLoss (h : QueuesSafe s) : NextSafe (execSampleLoss s) := by
  unfold execSampleLoss
  split
  · exact .ite ((((h.withStand _).raise ..).setFlag _).looperSampleLoss) h
  · exact nextSafe_next h

theorem nextSafe_encoderFault (h : QueuesSafe s) : NextSafe (execEncoderFault s) := by
  unfold execEncoderFault
  split
  · have hstalled : QueuesSafe { s with
        stand := { s.stand with encoderStall := true }, table := s.table.map Entry.encoderFault
        detector := { s.detector with verify := .idle } } := h
    exact .ite ((hstalled.raise ..).setFlag _) h
  · exact nextSafe_next h

theorem nextSafe_pieceAged (h : QueuesSafe s) : NextSafe (execPieceAged s) := by
  unfold execPieceAged
  split
  · split
    · split
      · exact nextSafe_next ((h.removeEntry _).raise ..)
      · exact nextSafe_next h
    · exact nextSafe_next h
  · exact nextSafe_next h

theorem nextSafe_liftTimeout (h : QueuesSafe s) : NextSafe (execLiftTimeout s) := by
  unfold execLiftTimeout
  split
  · exact .ite (h.looperTimeout ..) h
  · exact nextSafe_next h

theorem nextSafe_lowerTimeout (h : QueuesSafe s) : NextSafe (execLowerTimeout s) := by
  unfold execLowerTimeout
  split
  · exact .ite (h.looperTimeout ..) h
  · exact nextSafe_next h

theorem nextSafe_reportPeriodExpiry (h : QueuesSafe s) : NextSafe (execReportPeriodExpiry s) := by
  unfold execReportPeriodExpiry
  split
  · split
    · exact nextSafe_next (.ite (((h.withTrim _).latestField Sample.speed).queueTelegram _) (h.withTrim _))
    · exact nextSafe_next h
  · exact nextSafe_next h

/-- Whatever the command, its next state is safe. -/
theorem nextSafe_exec (h : QueuesSafe s) (i : Instr) : NextSafe (exec i s) := by
  cases i with
  | reset strap a b => exact nextSafe_next (.resetTo ..)
  | configWrite args => exact nextSafe_command h _ fun _ hu => hu.configWrite args
  | start args => exact nextSafe_command h _ fun _ hu => hu.startCommand
  | statusRead args => exact nextSafe_command h _ fun _ hu => hu.respond ..
  | eventRead args => exact nextSafe_command h _ fun _ hu => hu.readEvent
  | eventRecordClockedOut => exact nextSafe_eventRecordClockedOut h
  | faultClear args => exact nextSafe_command h _ fun _ hu => hu.clearFlags _
  | countersRead args => exact nextSafe_command h _ fun _ hu => hu.readCounters
  | pieceAnnounce args => exact nextSafe_pieceAnnounce h args
  | pieceWithdraw args => exact nextSafe_command h _ fun _ hu => hu.pieceWithdraw _
  | trackRead args => exact nextSafe_command h _ fun _ hu => .ite hu (hu.returnEntry _)
  | trackFind args => exact nextSafe_command h _ fun _ hu => hu.trackFind _
  | trackInsert args => exact nextSafe_trackInsert h args
  | trackRemove args => exact nextSafe_command h _ fun _ hu => hu.trackRemove _
  | looperRelease args => exact nextSafe_command h _ fun _ hu => hu.releaseLooper
  | trainStop args => exact nextSafe_command h _ fun _ hu => hu.stopCommand _
  | trainResume args => exact nextSafe_command h _ fun _ hu => hu.resumeCommand
  | busRelink args => exact nextSafe_command h _ fun _ hu => hu.relink
  | softReset args => exact nextSafe_command h _ fun _ hu => hu
  | unknownCommand code args => exact nextSafe_command h _ fun _ hu => hu.refuse _
  | spiTransactionAborted received => exact nextSafe_command h true fun _ hu => hu
  | announceReceived src seq a => exact nextSafe_received h src seq (.announce a)
  | pieceEntryReceived src seq r => exact nextSafe_received h src seq (.pieceEntry r)
  | pieceWithdrawReceived src seq tag => exact nextSafe_received h src seq (.pieceWithdraw tag)
  | headBiteReceived src seq tag anonymous speed => exact nextSafe_received h src seq (.headBite tag anonymous speed)
  | tailOutReceived src seq tag anonymous => exact nextSafe_received h src seq (.tailOut tag anonymous)
  | speedReportReceived src seq tag speed => exact nextSafe_received h src seq (.speedReport tag speed)
  | handoffFaultReceived src seq tag code => exact nextSafe_received h src seq (.handoffFault tag code)
  | trainStopReceived src seq level cause => exact nextSafe_received h src seq (.trainStop level cause)
  | trainResumeReceived src seq => exact nextSafe_received h src seq .trainResume
  | rxFailedReception why => exact nextSafe_rxFailedReception h why
  | rxMalformed why => exact nextSafe_rxMalformed h why
  | attemptBegin slots => exact nextSafe_next (h.lineIdle slots)
  | attemptSuccess => exact nextSafe_next h.attemptSucceeds
  | attemptFail => exact nextSafe_next h.attemptFails
  | announceTimerExpiry => exact nextSafe_announceTimerExpiry h
  | linkTimeout => exact nextSafe_linkTimeout h
  | encoderPulse channel => exact nextSafe_next (h.takePulse channel)
  | sampleRecord bytes => exact nextSafe_sampleRecord h bytes
  | sampleLoss => exact nextSafe_sampleLoss h
  | encoderFault => exact nextSafe_encoderFault h
  | pieceAged => exact nextSafe_pieceAged h
  | liftTimeout => exact nextSafe_liftTimeout h
  | settleTimerExpiry => exact .ite h.regulate h
  | lowerTimeout => exact nextSafe_lowerTimeout h
  | holdOffExpiry => exact .ite h h
  | reportAgeExpiry => exact .ite (h.holdTrim ..) h
  | reportPeriodExpiry => exact nextSafe_reportPeriodExpiry h
  | bothChannelsChange => exact nextSafe_next (h.withStand _)

end Commands

/-- Settles O59: a step runs a command or is a tick, and both keep the train bus unit and the event queue safe. -/
theorem everyStepKeepsTheBusUnitSafe : Obligations.EveryStepKeepsTheBusUnitSafe := by
  intro s t hstep hbus hevents
  have h : QueuesSafe s := (queuesSafe_iff s).2 ⟨hbus, hevents⟩
  rw [← queuesSafe_iff]
  unfold step at hstep
  split at hstep
  · rename_i i rest hpending
    exact nextSafe_exec (s := { s with pending := rest }) h i t hstep
  · exact nextSafe_next h.tick t hstep

end Sys2Proof.Proofs

/-! The blocks of a hand-off at every step (04 to 08): the tracking table, the load detector, the looper and the trim. -/

namespace Sys2Proof.Proofs

open Sys2Proof.Machine

/-! ### The invariants, by the parts of the state that they speak of -/

/-- An in-stand entry of the table is CONFIRMED. -/
def StandingConfirmed (table : List Entry) : Prop := ∃ e ∈ table, e.isInStand = true ∧ e.downstream = .confirmed

/-- The tracking table under a station state and a detector state (R59 to R62). -/
structure TableOk (st : StationState) (d : DetectorState) (table : List Entry) : Prop where
  room : table.length ≤ tableRoom
  tags : table.Pairwise fun e f => e.tag = f.tag → e.tag = 0
  order : table.Pairwise fun older younger => younger.phase.rank ≤ older.phase.rank
  standing : st = .running → table.countP Entry.isInStand = if d.holdsLoad then 1 else 0
  outside : st ≠ .running → table = []

/-- The load detector under a station state (R96, R101). -/
structure DetectorOk (st : StationState) (d : Detector) : Prop where
  unloaded : d.state = .unloaded ∨ st = .running ∨ st = .stopped
  verify : d.verify = .idle ∨ (st = .running ∧ d.state.holdsLoad)

/-- The looper of a station with this table (R123, R124, R131, R132, R135). -/
structure LooperOk (st : Station) (table : List Entry) (l : Looper) : Prop where
  placed : l.state = .parked ∨ l.state = .holdOff ∨
    (st.state = .running ∧ ∃ c ∈ st.config, drivesLooper c st.position = true)
  confirmed : l.state = .lifting .rise ∨ l.state = .lifting .settle ∨ l.state = .regulating → StandingConfirmed table
  tidy : l.Tidy
  bounded : ∀ c ∈ st.config, l.integrator ≤ c.tensionLimit.toNat

/-- Target and current trim lie within the limit of the own pass of an in-stand entry (R148). -/
def TrimFits (c : ConfigRecord) (table : List Entry) (t : Trim) : Prop :=
  ∀ e ∈ table, e.isInStand = true → ∀ own ∈ e.ownPass,
    t.target.natAbs ≤ trimLimitOf c own ∧ t.current.natAbs ≤ trimLimitOf c own

/-- The trim of a station with this table (R144, R148, R149, Table 8.1). -/
structure TrimOk (st : Station) (table : List Entry) (t : Trim) : Prop where
  tidy : t.Tidy
  placed : t.state = .off ∨ (st.state = .running ∧ StandingConfirmed table ∧
    ∃ c ∈ st.config, drivesLooper c st.position = true ∧ TrimFits c table t)

/-- The invariants of a hand-off. -/
structure HandoffOk (st : Station) (table : List Entry) (d : Detector) (l : Looper) (t : Trim) : Prop where
  tracking : TableOk st.state d.state table
  configured : st.state ≠ .configuring → st.config.isSome
  detector : DetectorOk st.state d
  looper : LooperOk st table l
  trim : TrimOk st table t

/-- The station's blocks keep the invariants of a hand-off, under the record in force. -/
def BlocksSafe (config : Option ConfigRecord) (s : State) : Prop :=
  HandoffOk s.station s.table s.detector s.looper s.trim ∧ s.station.config = config

/-! ### The in-stand entry -/

/-- At most one entry of the table is in-stand. -/
theorem TableOk.standing_le_one {st : StationState} {d : DetectorState} {table : List Entry} (h : TableOk st d table) :
    table.countP Entry.isInStand ≤ 1 := by
  by_cases hst : st = .running
  · rw [h.standing hst]
    split <;> omega
  · simp [h.outside hst]

/-- Where at most one entry is in-stand, the first one found is the only one. -/
theorem find?_isInStand_iff {table : List Entry} (h : table.countP Entry.isInStand ≤ 1) (e : Entry) :
    table.find? Entry.isInStand = some e ↔ e ∈ table ∧ e.isInStand = true := by
  refine ⟨fun hf => ⟨List.mem_of_find?_eq_some hf, List.find?_some hf⟩, fun ⟨he, hs⟩ => ?_⟩
  rw [List.countP_eq_length_filter] at h
  rw [← List.head?_filter]
  have hmem : e ∈ table.filter Entry.isInStand := List.mem_filter.2 ⟨he, hs⟩
  obtain ⟨a, ha⟩ := List.length_eq_one_iff.1 (Nat.le_antisymm h (List.length_pos_of_mem hmem))
  rw [ha] at hmem ⊢
  rw [List.mem_singleton.1 hmem]
  rfl

theorem standingConfirmed_iff (s : State) (h : s.table.countP Entry.isInStand ≤ 1) :
    StandingConfirmed s.table ↔ s.InStandConfirmed := by
  simp only [StandingConfirmed, State.InStandConfirmed, State.inStand?, Option.mem_def, find?_isInStand_iff h, and_assoc]

theorem trimFits_iff (c : ConfigRecord) (s : State) (h : s.table.countP Entry.isInStand ≤ 1) :
    TrimFits c s.table s.trim ↔ ∀ e ∈ s.inStand?, ∀ own ∈ e.ownPass,
      s.trim.target.natAbs ≤ trimLimitOf c own ∧ s.trim.current.natAbs ≤ trimLimitOf c own := by
  simp only [TrimFits, State.inStand?, Option.mem_def, find?_isInStand_iff h, and_imp]

theorem blocksSafe_iff (s : State) : BlocksSafe s.station.config s ↔ s.HandoffSafe := by
  constructor
  · rintro ⟨⟨ht, hc, ⟨hunloaded, hverify⟩, ⟨hplaced, hconfirmed, htidy, hbounded⟩, hotidy, hoplaced⟩, -⟩
    have hone := ht.standing_le_one
    simp only [trimFits_iff _ _ hone, standingConfirmed_iff _ hone] at hoplaced hconfirmed
    exact ⟨⟨ht.room, ht.tags⟩, ht.order, ⟨ht.standing, ht.outside⟩, hc, ⟨hunloaded, hverify⟩, ⟨hplaced, hconfirmed⟩, htidy,
      hbounded, hotidy, hoplaced⟩
  · rintro ⟨⟨hroom, htags⟩, horder, ⟨hstanding, houtside⟩, hc, ⟨hunloaded, hverify⟩, ⟨hplaced, hconfirmed⟩, htidy, hbounded, hotidy,
      hoplaced⟩
    have ht : TableOk s.station.state s.detector.state s.table := ⟨hroom, htags, horder, hstanding, houtside⟩
    have hone := ht.standing_le_one
    refine ⟨⟨ht, hc, ⟨hunloaded, hverify⟩, ⟨hplaced, ?_, htidy, hbounded⟩, hotidy, ?_⟩, rfl⟩
    · rwa [standingConfirmed_iff s hone]
    · simpa only [trimFits_iff _ _ hone, standingConfirmed_iff _ hone] using hoplaced

/-! ### Writing entries -/

/-- An entry rewritten in nothing that the hand-off rests on: a CONFIRMED one stays CONFIRMED. -/
structure Kept (e f : Entry) : Prop where
  tag : f.tag = e.tag
  phase : f.phase = e.phase
  window : f.window = e.window
  confirmed : e.downstream = .confirmed → f.downstream = .confirmed

theorem Kept.refl (e : Entry) : Kept e e := ⟨rfl, rfl, rfl, id⟩

theorem Kept.isInStand {e f : Entry} (h : Kept e f) : f.isInStand = e.isInStand := by
  rw [Entry.isInStand, Entry.isInStand, h.phase]

theorem Kept.ownPass {e f : Entry} (h : Kept e f) : f.ownPass = e.ownPass := by
  rw [Entry.ownPass, Entry.ownPass, h.window]

section Tables

variable {table table' : List Entry}

theorem forall₂_kept_map {f : Entry → Entry} (hf : ∀ e, Kept e (f e)) : List.Forall₂ Kept table (table.map f) :=
  List.forall₂_map_right_iff.2 (List.forall₂_same.2 fun e _ => hf e)

theorem forall₂_kept_modify {k : Nat} {f : Entry → Entry} (hf : ∀ e, table[k]? = some e → Kept e (f e)) :
    List.Forall₂ Kept table (table.modify k f) := by
  induction table generalizing k with
  | nil => simp
  | cons e rest ih =>
    cases k with
    | zero => exact .cons (hf e rfl) (List.forall₂_same.2 fun x _ => Kept.refl x)
    | succ k => exact .cons (Kept.refl e) (ih hf)

theorem exists_left_of_forall₂ {R : Entry → Entry → Prop} (h : List.Forall₂ R table table') :
    ∀ f ∈ table', ∃ e ∈ table, R e f := by
  induction h with
  | nil => simp
  | @cons a b l l' hab hl ih =>
    intro f hf
    rcases List.mem_cons.1 hf with rfl | hf
    · exact ⟨a, List.mem_cons_self .., hab⟩
    · obtain ⟨e, he, hR⟩ := ih f hf
      exact ⟨e, List.mem_cons_of_mem _ he, hR⟩

theorem exists_right_of_forall₂ {R : Entry → Entry → Prop} (h : List.Forall₂ R table table') :
    ∀ e ∈ table, ∃ f ∈ table', R e f :=
  exists_left_of_forall₂ h.flip

theorem pairwise_of_forall₂ {R : Entry → Entry → Prop} {S S' : Entry → Entry → Prop} (h : List.Forall₂ R table table')
    (hS : ∀ a b a' b', R a a' → R b b' → S a b → S' a' b') (hp : table.Pairwise S) : table'.Pairwise S' := by
  induction h with
  | nil => exact .nil
  | @cons a a' l l' ha hl ih =>
    obtain ⟨hall, hrest⟩ := List.pairwise_cons.1 hp
    refine List.pairwise_cons.2 ⟨fun b' hb' => ?_, ih hrest⟩
    obtain ⟨b, hb, hR⟩ := exists_left_of_forall₂ hl b' hb'
    exact hS a b a' b' ha hR (hall b hb)

theorem countP_of_forall₂_kept (h : List.Forall₂ Kept table table') :
    table'.countP Entry.isInStand = table.countP Entry.isInStand := by
  induction h with
  | nil => rfl
  | cons hk _ ih => rw [List.countP_cons, List.countP_cons, ih, hk.isInStand]

theorem StandingConfirmed.of_kept (h : List.Forall₂ Kept table table') (hc : StandingConfirmed table) :
    StandingConfirmed table' := by
  obtain ⟨e, he, hs, hd⟩ := hc
  obtain ⟨f, hf, hk⟩ := exists_right_of_forall₂ h e he
  exact ⟨f, hf, hk.isInStand ▸ hs, hk.confirmed hd⟩

theorem TrimFits.of_kept {c : ConfigRecord} {t : Trim} (h : List.Forall₂ Kept table table') (ht : TrimFits c table t) :
    TrimFits c table' t := by
  intro f hf hs own hown
  obtain ⟨e, he, hk⟩ := exists_left_of_forall₂ h f hf
  exact ht e he (hk.isInStand ▸ hs) own (hk.ownPass ▸ hown)

variable {st : StationState} {d : DetectorState}

theorem TableOk.of_kept (h : TableOk st d table) (hk : List.Forall₂ Kept table table') : TableOk st d table' := by
  refine ⟨hk.length_eq ▸ h.room, pairwise_of_forall₂ hk ?_ h.tags, pairwise_of_forall₂ hk ?_ h.order, fun hst => ?_, fun hst => ?_⟩
  · intro a b a' b' ha hb hab
    rw [ha.tag, hb.tag]
    exact hab
  · intro a b a' b' ha hb hab
    rwa [ha.phase, hb.phase]
  · rw [countP_of_forall₂_kept hk]
    exact h.standing hst
  · have := h.outside hst
    subst this
    exact List.forall₂_nil_left_iff.1 hk

/-- Entries that are not in-stand leave the table. -/
theorem TableOk.of_sublist (h : TableOk st d table) (hsub : table'.Sublist table)
    (hcount : table'.countP Entry.isInStand = table.countP Entry.isInStand) : TableOk st d table' :=
  ⟨hsub.length_le.trans h.room, h.tags.sublist hsub, h.order.sublist hsub, fun hst => hcount.trans (h.standing hst),
    fun hst => List.sublist_nil.1 (h.outside hst ▸ hsub)⟩

/-- Where the entries that left were not in-stand, the in-stand one stays. -/
theorem mem_of_countP_eq (hsub : table'.Sublist table)
    (hcount : table'.countP Entry.isInStand = table.countP Entry.isInStand) {e : Entry} (he : e ∈ table)
    (hs : e.isInStand = true) : e ∈ table' := by
  rw [List.countP_eq_length_filter, List.countP_eq_length_filter] at hcount
  have heq := (hsub.filter Entry.isInStand).eq_of_length hcount
  have hmem : e ∈ table'.filter Entry.isInStand := heq ▸ List.mem_filter.2 ⟨he, hs⟩
  exact (List.mem_filter.1 hmem).1

theorem StandingConfirmed.of_sublist (hsub : table'.Sublist table)
    (hcount : table'.countP Entry.isInStand = table.countP Entry.isInStand) (h : StandingConfirmed table) :
    StandingConfirmed table' := by
  obtain ⟨e, he, hs, hd⟩ := h
  exact ⟨e, mem_of_countP_eq hsub hcount he hs, hs, hd⟩

theorem TrimFits.of_subset {c : ConfigRecord} {t : Trim} (hsub : table' ⊆ table) (h : TrimFits c table t) : TrimFits c table' t :=
  fun e he => h e (hsub he)

end Tables

/-! ### The state with one part changed -/

section Parts

variable {config : Option ConfigRecord} {c : ConfigRecord} {s : State} {st : Station} {table table' : List Entry} {d : Detector} {l : Looper}
  {t : Trim}

/-- Looper and trim may rest on another table where the in-stand entry stays CONFIRMED and its pass the same. -/
theorem HandoffOk.withTable (h : HandoffOk st table d l t) (ht : TableOk st.state d.state table')
    (hconfirmed : StandingConfirmed table → StandingConfirmed table') (hfits : ∀ c, TrimFits c table t → TrimFits c table' t) :
    HandoffOk st table' d l t := by
  obtain ⟨-, hconfigured, hdetector, ⟨hplaced, hstanding, hltidy, hbounded⟩, httidy, hposition⟩ := h
  refine ⟨ht, hconfigured, hdetector, ⟨hplaced, fun hl => hconfirmed (hstanding hl), hltidy, hbounded⟩, httidy, ?_⟩
  exact hposition.imp_right fun ⟨hrun, hc, c, hconf, hdrives, hf⟩ => ⟨hrun, hconfirmed hc, c, hconf, hdrives, hfits c hf⟩

theorem HandoffOk.of_kept (h : HandoffOk st table d l t) (hk : List.Forall₂ Kept table table') : HandoffOk st table' d l t :=
  h.withTable (h.tracking.of_kept hk) (.of_kept hk) fun _ => .of_kept hk

theorem HandoffOk.of_sublist (h : HandoffOk st table d l t) (hsub : table'.Sublist table)
    (hcount : table'.countP Entry.isInStand = table.countP Entry.isInStand) : HandoffOk st table' d l t :=
  h.withTable (h.tracking.of_sublist hsub hcount) (.of_sublist hsub hcount) fun _ => .of_subset hsub.subset

theorem HandoffOk.withLooper (h : HandoffOk st table d l t) {l' : Looper} (hl : LooperOk st table l') :
    HandoffOk st table d l' t :=
  { h with looper := hl }

theorem HandoffOk.withTrim (h : HandoffOk st table d l t) {t' : Trim} (ht : TrimOk st table t') : HandoffOk st table d l t' :=
  { h with trim := ht }

/-- A looper at rest needs no station that drives it and no entry. -/
theorem LooperOk.of_resting (hrest : l.state = .parked ∨ l.state = .holdOff) (htidy : l.Tidy) : LooperOk st table l := by
  have hzero : l.integrator = 0 := by
    obtain ⟨-, -, -, -, -, hidle⟩ := htidy
    exact hidle (by rcases hrest with h | h <;> simp [h])
  exact ⟨hrest.imp_right .inl, fun hl => by rcases hrest with h | h <;> simp [h] at hl, htidy,
    fun c _ => hzero ▸ Nat.zero_le _⟩

theorem TrimOk.of_off (hoff : t.state = .off) (htidy : t.Tidy) : TrimOk st table t := ⟨htidy, .inl hoff⟩

/-- Outside RUNNING the table is empty, the looper and the trim rest and no verification is in progress. -/
theorem HandoffOk.of_not_running (hst : st.state ≠ .running) (hconfigured : st.state ≠ .configuring → st.config.isSome)
    (hd : d.state = .unloaded ∨ st.state = .stopped) (hverify : d.verify = .idle)
    (hrest : l.state = .parked ∨ l.state = .holdOff) (hl : l.Tidy) (hoff : t.state = .off) (ht : t.Tidy) :
    HandoffOk st [] d l t :=
  ⟨⟨Nat.zero_le _, .nil, .nil, fun h => absurd h hst, fun _ => rfl⟩, hconfigured, ⟨hd.imp_right .inr, .inl hverify⟩,
    .of_resting hrest hl, .of_off hoff ht⟩

/-- Outside RUNNING the looper rests. -/
theorem LooperOk.resting (h : LooperOk st table l) (hst : st.state ≠ .running) : l.state = .parked ∨ l.state = .holdOff :=
  h.placed.imp_right fun hp => hp.resolve_right fun hr => hst hr.1

/-- Outside RUNNING the trim is OFF. -/
theorem TrimOk.off (h : TrimOk st table t) (hst : st.state ≠ .running) : t.state = .off :=
  h.placed.resolve_right fun hr => hst hr.1

end Parts

/-! ### Loopers and trims at rest -/

theorem toHoldOff_tidy (c : ConfigRecord) (l : Looper) : (l.toHoldOff c).Tidy := by
  simp [Looper.toHoldOff, Looper.park, Looper.Tidy]

theorem toOff_tidy (t : Trim) : t.toOff.Tidy := by
  simp [Trim.toOff, Trim.Tidy]

/-- On entering STOPPED the looper parks, but for a hold-off (R141). -/
theorem toStopped_rests {l : Looper} (h : l.Tidy) : (l.toStopped.state = .parked ∨ l.toStopped.state = .holdOff) ∧ l.toStopped.Tidy := by
  have hpark (hl : l.state ≠ .holdOff) : l.park.Tidy := by
    obtain ⟨-, -, -, hhold, -, -⟩ := h
    simpa [Looper.park, Looper.Tidy] using mt hhold.1 hl
  unfold Looper.toStopped
  cases hl : l.state with
  | parked => exact ⟨.inl hl, h⟩
  | holdOff => exact ⟨.inr hl, h⟩
  | armed => exact ⟨.inl rfl, hpark (by simp [hl])⟩
  | lifting p => exact ⟨.inl rfl, hpark (by simp [hl])⟩
  | regulating => exact ⟨.inl rfl, hpark (by simp [hl])⟩
  | lowering => exact ⟨.inl rfl, hpark (by simp [hl])⟩

/-! ### The shared operations -/

section Operations

variable {config : Option ConfigRecord} {c : ConfigRecord} {s : State}

theorem BlocksSafe.ite {p : Prop} [Decidable p] {u v : State} (hu : BlocksSafe config u) (hv : BlocksSafe config v) :
    BlocksSafe config (if p then u else v) := by
  split
  · exact hu
  · exact hv

theorem BlocksSafe.raise (h : BlocksSafe config s) (k : EventKind) (tag d : Half) : BlocksSafe config (s.raise k tag d) := h

theorem BlocksSafe.setFlag (h : BlocksSafe config s) (f : LatchedFlag) : BlocksSafe config (s.setFlag f) := h

theorem BlocksSafe.queueTelegram (h : BlocksSafe config s) (t : Telegram) : BlocksSafe config (s.queueTelegram t) := by
  obtain ⟨b, host, hq⟩ := Laws.queueTelegram_eq t s
  rw [hq]; exact h

theorem BlocksSafe.withLooper (h : BlocksSafe config s) {l : Looper} (hl : LooperOk s.station s.table l) :
    BlocksSafe config { s with looper := l } :=
  ⟨h.1.withLooper hl, h.2⟩

theorem BlocksSafe.withTrim (h : BlocksSafe config s) {t : Trim} (ht : TrimOk s.station s.table t) :
    BlocksSafe config { s with trim := t } :=
  ⟨h.1.withTrim ht, h.2⟩

theorem BlocksSafe.withKept (h : BlocksSafe config s) {table : List Entry} (hk : List.Forall₂ Kept s.table table) :
    BlocksSafe config { s with table := table } :=
  ⟨h.1.of_kept hk, h.2⟩

/-- A looper fault puts the looper in HOLD_OFF, whatever its state (R138). -/
theorem BlocksSafe.toHoldOff (h : BlocksSafe config s) : BlocksSafe config { s with looper := s.looper.toHoldOff c } :=
  h.withLooper (.of_resting (.inr rfl) (toHoldOff_tidy c _))

/-- A station that is not in CONFIGURING may enter STOPPED (R163). -/
theorem BlocksSafe.enterStopped (h : BlocksSafe config s) (hst : s.station.state ≠ .configuring) :
    BlocksSafe config s.enterStopped := by
  obtain ⟨hrest, htidy⟩ := toStopped_rests h.1.looper.tidy
  exact ⟨.of_not_running StationState.noConfusion (fun _ => h.1.configured hst) (.inr rfl) rfl hrest htidy rfl (toOff_tidy s.trim), h.2⟩

theorem BlocksSafe.enterFaulted (h : BlocksSafe config s) (hst : s.station.state ≠ .configuring) (cause : FaultCause) (src : Fin 10) :
    BlocksSafe config (s.enterFaulted cause src) :=
  ⟨.of_not_running StationState.noConfusion (fun _ => h.1.configured hst) (.inl rfl) rfl (.inl rfl) (by simp [Looper.park, Looper.Tidy])
    rfl (toOff_tidy s.trim), h.2⟩

theorem BlocksSafe.takeOwnStop (h : BlocksSafe config s) (level cause : Byte) : BlocksSafe config (s.takeOwnStop level cause) := by
  unfold State.takeOwnStop
  split
  · rename_i hrun
    exact (h.enterStopped (by simp [hrun])).raise ..
  · exact h

theorem BlocksSafe.originateStop (h : BlocksSafe config s) (level cause : Byte) : BlocksSafe config (s.originateStop level cause) :=
  (h.queueTelegram _).takeOwnStop ..

theorem BlocksSafe.autoStop (h : BlocksSafe config s) (level cause : Byte) : BlocksSafe config (s.autoStop level cause) :=
  .ite h (h.originateStop ..)

/-- A station that enters RUNNING has an empty table, an unloaded detector, and looper and trim at rest (R24, R167). -/
theorem BlocksSafe.toRunning (h : BlocksSafe config s) (hst : s.station.state ≠ .running) (hconfig : s.station.state ≠ .configuring)
    (hd : s.detector.state = .unloaded) {st : Station} (hkeeps : st.config = s.station.config) (hrun : st.state = .running) :
    BlocksSafe config { s with station := st } := by
  obtain ⟨⟨htable, hconfigured, hdetector, hlooper, htrim⟩, hc⟩ := h
  have hempty := htable.outside hst
  refine ⟨⟨⟨htable.room, htable.tags, htable.order, fun _ => ?_, fun hn => absurd hrun hn⟩,
    fun _ => hkeeps ▸ hconfigured hconfig, ⟨.inl hd, hdetector.verify.imp_right fun hv => absurd hv.1 hst⟩,
    .of_resting (hlooper.resting hst) hlooper.tidy, .of_off (htrim.off hst) htrim.tidy⟩, hkeeps.trans hc⟩
  simp [hempty, hd, DetectorState.holdsLoad]

theorem BlocksSafe.takeResume (h : BlocksSafe config s) (src : BitVec 4) : BlocksSafe config (s.takeResume src) := by
  unfold State.takeResume
  split
  · rename_i hstopped
    split
    · rename_i hd
      exact (h.toRunning (by simp [hstopped]) (by simp [hstopped]) hd (st := { s.station with state := .running }) rfl rfl).raise ..
    · exact h.raise ..
  · exact h

/-! ### The tracking table -/

theorem kept_age (e : Entry) : Kept e { e with age := 0 } := ⟨rfl, rfl, rfl, id⟩

/-- The entry at a slot rewritten in nothing that the hand-off rests on. -/
theorem BlocksSafe.writeKept (h : BlocksSafe config s) (slot : Nat) {f : Entry → Entry}
    (hf : ∀ e, s.table[slot]? = some e → Kept e (f e)) : BlocksSafe config (s.writeEntry slot f) :=
  h.withKept (forall₂_kept_modify fun e he =>
    have hk := hf e he
    ⟨hk.tag, hk.phase, hk.window, hk.confirmed⟩)

theorem BlocksSafe.refreshTag (h : BlocksSafe config s) (tag : Half) : BlocksSafe config (s.refreshTag tag) := by
  unfold State.refreshTag
  split
  · exact h.writeKept _ fun e _ => Kept.refl e
  · exact h

theorem requestFlag_kept (f : EntryFlags → EntryFlags) (s : State) : List.Forall₂ Kept s.table (s.requestFlag f).table := by
  unfold State.requestFlag
  split
  · exact forall₂_kept_modify fun e _ => ⟨rfl, rfl, rfl, id⟩
  · exact List.forall₂_same.2 fun e _ => Kept.refl e

theorem BlocksSafe.requestFlag (h : BlocksSafe config s) (f : EntryFlags → EntryFlags) : BlocksSafe config (s.requestFlag f) := by
  obtain ⟨table, ht⟩ := Laws.requestFlag_eq f s
  have hk := requestFlag_kept f s
  rw [ht] at hk ⊢
  exact h.withKept hk

/-- A table that holds an entry is that of a RUNNING station (R62). -/
theorem BlocksSafe.running_of_mem (h : BlocksSafe config s) {e : Entry} (he : e ∈ s.table) : s.station.state = .running := by
  by_contra hst
  have := h.1.tracking.outside hst
  simp [this] at he

/-- A table around the entry at a slot. -/
theorem exists_split {table : List Entry} {k : Nat} {e : Entry} (h : table[k]? = some e) :
    ∃ before after, table = before ++ e :: after ∧ before.length = k := by
  obtain ⟨hk, he⟩ := List.getElem?_eq_some_iff.1 h
  refine ⟨table.take k, table.drop (k + 1), ?_, List.length_take_of_le hk.le⟩
  rw [← he, ← List.drop_eq_getElem_cons hk, List.take_append_drop]

theorem modify_split (before after : List Entry) (e : Entry) (f : Entry → Entry) :
    (before ++ e :: after).modify before.length f = before ++ f e :: after := by
  induction before with
  | nil => rfl
  | cons x before ih => exact congrArg (x :: ·) ih

theorem eraseIdx_split (before after : List Entry) (e : Entry) :
    (before ++ e :: after).eraseIdx before.length = before ++ after := by
  rw [List.eraseIdx_append_of_length_le le_rfl, Nat.sub_self]
  rfl

/-- An entry that is not in-stand leaves the table. -/
theorem BlocksSafe.removeEntry (h : BlocksSafe config s) {slot : Nat} {e : Entry} (he : s.table[slot]? = some e)
    (hout : e.isInStand = false) : BlocksSafe config (s.removeEntry slot) := by
  refine ⟨h.1.of_sublist (List.eraseIdx_sublist ..) ?_, h.2⟩
  obtain ⟨before, after, htable, rfl⟩ := exists_split he
  show (s.table.eraseIdx before.length).countP Entry.isInStand = s.table.countP Entry.isInStand
  rw [htable, eraseIdx_split, List.countP_append, List.countP_append, List.countP_cons, hout]
  simp

theorem isInStand_eq_false_of_phase {e : Entry} (h : e.phase = .announced ∨ e.phase = .approaching ∨ e.phase = .cleared) :
    e.isInStand = false := by
  rcases h with h | h | h <;> simp [Entry.isInStand, h]

/-- The ANNOUNCED entries older than a slot leave the table. -/
theorem BlocksSafe.passOver (h : BlocksSafe config s) (slot : Nat) : BlocksSafe config (s.passOver slot) := by
  have hpassed : ∀ (l : List Entry) (u : State), BlocksSafe config u →
      BlocksSafe config (l.foldl (fun s e => s.raise .pieceWithdrawn e.tag WithdrawReason.passed.code) u) :=
    fun l u hu => List.foldlRecOn l _ (motive := BlocksSafe config) hu fun _ hv _ _ => hv.raise ..
  refine hpassed _ _ ⟨h.1.of_sublist ?_ ?_, h.2⟩
  · conv_rhs => rw [← List.take_append_drop slot s.table]
    exact List.Sublist.append List.filter_sublist (List.Sublist.refl _)
  · conv_rhs => rw [← List.take_append_drop slot s.table]
    rw [List.countP_append, List.countP_append, List.countP_filter]
    congr 2
    funext e
    cases hp : e.phase <;> simp [Entry.isInStand, hp]

/-- Making room leaves the invariants, and where the table was full it gives up a CLEARED entry. -/
theorem BlocksSafe.makeRoom (h : BlocksSafe config s) {u : State} (hu : s.makeRoom = some u) :
    BlocksSafe config u ∧ u.table.length < tableRoom ∧ u.table.Sublist s.table ∧
      u.station = s.station ∧ u.detector = s.detector := by
  obtain ⟨rfl, hroom⟩ | ⟨k, e, he, hphase, rfl⟩ := Laws.makeRoom_eq s u hu
  · exact ⟨h, hroom, List.Sublist.refl _, rfl, rfl⟩
  · refine ⟨(h.removeEntry he (isInStand_eq_false_of_phase (.inr (.inr hphase)))).raise .., ?_, List.eraseIdx_sublist .., rfl, rfl⟩
    obtain ⟨hk, -⟩ := List.getElem?_eq_some_iff.1 he
    have := h.1.tracking.room
    show (s.table.eraseIdx k).length < tableRoom
    rw [List.length_eraseIdx_of_lt hk]
    omega

/-- An ANNOUNCED entry with a tag that the table does not hold joins it, in RUNNING. -/
theorem BlocksSafe.createEntry (h : BlocksSafe config s) (hrun : s.station.state = .running) {e : Entry}
    (he : e.phase = .announced) {u : State} (hu : s.createEntry e = .ok u) : BlocksSafe config u := by
  obtain ⟨hnew, v, hv, rfl⟩ := Laws.createEntry_eq e s u hu
  obtain ⟨hsafe, hroom, hsub, hstation, -⟩ := h.makeRoom hv
  have hout := isInStand_eq_false_of_phase (.inl he)
  obtain ⟨hroom', htags, horder, hstanding, houtside⟩ := hsafe.1.tracking
  refine ⟨hsafe.1.withTable ⟨?_, ?_, ?_, fun hst => ?_, fun hst => absurd (hstation ▸ hrun) hst⟩ ?_ ?_, hsafe.2⟩
  · simpa using hroom
  · refine List.pairwise_append.2 ⟨htags, List.pairwise_singleton .., fun x hx y hy htag => ?_⟩
    obtain rfl := List.mem_singleton.1 hy
    rcases (Laws.slotOfTag_eq_none s y.tag).1 hnew with hzero | hother
    · exact htag.trans hzero
    · exact absurd htag (hother x (hsub.subset hx))
  · refine List.pairwise_append.2 ⟨horder, List.pairwise_singleton .., fun x _ y hy => ?_⟩
    obtain rfl := List.mem_singleton.1 hy
    simp [he, Phase.rank]
  · rw [List.countP_append, List.countP_singleton, hout]
    exact hstanding hst
  · rintro ⟨x, hx, hxs⟩
    exact ⟨x, List.mem_append_left _ hx, hxs⟩
  · intro c hf x hx hxs
    rcases List.mem_append.1 hx with hx | hx
    · exact hf x hx hxs
    · obtain rfl := List.mem_singleton.1 hx
      rw [hout] at hxs
      cases hxs

/-! ### An entry in another phase -/

section Phases

variable {st : Station} {d : Detector} {l : Looper} {t : Trim} {before after : List Entry} {e f : Entry}

/-- An entry moves to a later phase that no older one is behind of. -/
theorem TableOk.rephase {state : StationState} {d d' : DetectorState} (h : TableOk state d (before ++ e :: after))
    (htag : f.tag = e.tag) (hrank : e.phase.rank ≤ f.phase.rank) (hbefore : ∀ x ∈ before, f.phase.rank ≤ x.phase.rank)
    (hcount : state = .running → (before ++ f :: after).countP Entry.isInStand = if d'.holdsLoad then 1 else 0) :
    TableOk state d' (before ++ f :: after) := by
  obtain ⟨hroom, htags, horder, -, houtside⟩ := h
  rw [List.pairwise_append] at htags horder
  obtain ⟨htb, hte, htx⟩ := htags
  obtain ⟨hob, hoe, hox⟩ := horder
  rw [List.pairwise_cons] at hte hoe
  refine ⟨by simpa using hroom, List.pairwise_append.2 ⟨htb, List.pairwise_cons.2 ⟨?_, hte.2⟩, fun x hx y hy => ?_⟩,
    List.pairwise_append.2 ⟨hob, List.pairwise_cons.2 ⟨fun y hy => (hoe.1 y hy).trans hrank, hoe.2⟩, fun x hx y hy => ?_⟩, hcount,
    fun hst => absurd (houtside hst) (by simp)⟩
  · rw [htag]
    exact hte.1
  · rcases List.mem_cons.1 hy with rfl | hy
    · rw [htag]
      exact htx x hx e (List.mem_cons_self ..)
    · exact htx x hx y (List.mem_cons_of_mem _ hy)
  · rcases List.mem_cons.1 hy with rfl | hy
    · exact hbefore x hx
    · exact hox x hx y (List.mem_cons_of_mem _ hy)

/-- An entry moves to a later phase without coming to the stand or leaving it. -/
theorem HandoffOk.rephase (h : HandoffOk st (before ++ e :: after) d l t) (htag : f.tag = e.tag) (hwindow : f.window = e.window)
    (hdown : f.downstream = e.downstream) (hstanding : f.isInStand = e.isInStand) (hrank : e.phase.rank ≤ f.phase.rank)
    (hbefore : ∀ x ∈ before, f.phase.rank ≤ x.phase.rank) : HandoffOk st (before ++ f :: after) d l t := by
  refine h.withTable (h.tracking.rephase htag hrank hbefore fun hst => ?_) ?_ ?_
  · have hcount := h.tracking.standing hst
    rwa [List.countP_append, List.countP_cons, ← hstanding, ← List.countP_cons, ← List.countP_append] at hcount
  · rintro ⟨x, hx, hxs, hxd⟩
    rcases List.mem_append.1 hx with hx | hx
    · exact ⟨x, List.mem_append_left _ hx, hxs, hxd⟩
    · rcases List.mem_cons.1 hx with rfl | hx
      · exact ⟨f, by simp, hstanding.trans hxs, hdown.trans hxd⟩
      · exact ⟨x, by simp [hx], hxs, hxd⟩
  · intro c hf x hx hxs
    rcases List.mem_append.1 hx with hx | hx
    · exact hf x (List.mem_append_left _ hx) hxs
    · rcases List.mem_cons.1 hx with rfl | hx
      · rw [show x.ownPass = e.ownPass by rw [Entry.ownPass, Entry.ownPass, hwindow]]
        exact hf e (by simp) (hstanding.symm.trans hxs)
      · exact hf x (by simp [hx]) hxs

/-- The entries older than the in-stand one are CLEARED, and no younger one is in-stand. -/
theorem TableOk.around_standing {state : StationState} {d : DetectorState} (h : TableOk state d (before ++ e :: after))
    (hs : e.isInStand = true) :
    (∀ x ∈ before, x.phase = .cleared) ∧ before.countP Entry.isInStand = 0 ∧ after.countP Entry.isInStand = 0 := by
  have hone := h.standing_le_one
  rw [List.countP_append, List.countP_cons, hs] at hone
  simp only [if_true] at hone
  have hb : before.countP Entry.isInStand = 0 := by omega
  refine ⟨fun x hx => ?_, hb, by omega⟩
  have hout : x.isInStand = false := by simpa using List.countP_eq_zero.1 hb x hx
  obtain ⟨-, -, horder⟩ := List.pairwise_append.1 h.order
  have hrank := horder x hx e (List.mem_cons_self ..)
  cases hp : x.phase <;> cases hq : e.phase <;> simp [Entry.isInStand, Phase.rank, hp, hq] at hs hout hrank ⊢

end Phases

end Operations

end Sys2Proof.Proofs

/-! The hand-off at every step, continued: what each block does with a telegram, a mark, a sample or a timer keeps the blocks in agreement. -/

namespace Sys2Proof.Proofs

open Sys2Proof.Machine

section Table

variable {config : Option ConfigRecord} {c : ConfigRecord} {s : State}

/-! ### The upstream telegrams (R66 to R68) -/

/-- The entry at a slot keeps its place behind those that are not ANNOUNCED once the others have been passed over. -/
theorem passOver_split {k : Nat} {e : Entry} (he : s.table[k]? = some e) : (s.passOver k).table =
    ((s.table.take k).filter fun e => e.phase ≠ .announced) ++ e :: s.table.drop (k + 1) := by
  obtain ⟨hk, rfl⟩ := List.getElem?_eq_some_iff.1 he
  rw [Laws.passOver_table, List.drop_eq_getElem_cons hk]

/-- Passing over moves the named entry to the slot that the others leave it. -/
theorem slotOfTag_passOver {tag : Half} {k : Nat} (h : s.slotOfTag tag = some k) :
    (s.passOver k).slotOfTag tag = some (s.slotAfter k) := by
  obtain ⟨hzero, e, he, htag, hfirst⟩ := (Laws.slotOfTag_eq_some s tag k).1 h
  refine (Laws.slotOfTag_eq_some _ _ _).2 ⟨hzero, e, ?_, htag, fun j hj f hf => ?_⟩
  · rw [passOver_split he, State.slotAfter, List.getElem?_append_right le_rfl, Nat.sub_self]
    rfl
  · rw [passOver_split he, List.getElem?_append_left hj] at hf
    obtain ⟨hmem, -⟩ := List.mem_filter.1 (List.mem_of_getElem? hf)
    obtain ⟨i, hi, hif⟩ := List.mem_take_iff_getElem.1 hmem
    exact hfirst i (by omega) f (by rw [List.getElem?_eq_getElem (by omega), hif]; rfl)

/-- The entry at a slot moves to a later phase without coming to the stand or leaving it. -/
theorem BlocksSafe.rephase (h : BlocksSafe config s) {before after : List Entry} {e : Entry} {f : Entry → Entry}
    (htable : s.table = before ++ e :: after) (htag : (f e).tag = e.tag) (hwindow : (f e).window = e.window)
    (hdown : (f e).downstream = e.downstream) (hstanding : (f e).isInStand = e.isInStand)
    (hrank : e.phase.rank ≤ (f e).phase.rank) (hbefore : ∀ x ∈ before, (f e).phase.rank ≤ x.phase.rank) :
    BlocksSafe config (s.writeEntry before.length f) := by
  obtain ⟨hsafe, hconfig⟩ := h
  rw [htable] at hsafe
  refine ⟨?_, hconfig⟩
  show HandoffOk s.station (s.table.modify before.length fun e => { f e with age := 0 }) s.detector s.looper s.trim
  rw [htable, modify_split]
  exact hsafe.rephase htag hwindow hdown hstanding hrank hbefore

/-- An ANNOUNCED entry becomes APPROACHING once those ahead of it have been passed over. -/
theorem BlocksSafe.approach (h : BlocksSafe config s) {k : Nat} {e : Entry} (he : s.table[k]? = some e)
    (hphase : e.phase = .announced) {f : Entry → Entry}
    (htag : (f e).tag = e.tag) (hwindow : (f e).window = e.window)
    (hdown : (f e).downstream = e.downstream) (hf : (f e).phase = .approaching) :
    BlocksSafe config ((s.passOver k).writeEntry (s.slotAfter k) f) := by
  refine (h.passOver k).rephase (passOver_split he) htag hwindow hdown ?_ ?_ fun x hx => ?_
  · rw [isInStand_eq_false_of_phase (.inl hphase), isInStand_eq_false_of_phase (.inr (.inl hf))]
  · simp [hphase, Phase.rank]
  · have hx' : x.phase ≠ .announced := by simpa using (List.mem_filter.1 hx).2
    cases hp : x.phase <;> simp [hf, hp, Phase.rank] at hx' ⊢

theorem BlocksSafe.unexpected (h : BlocksSafe config s) (kind : BitVec 4) (src : Fin 10) (r : FrameReason) (tag : Half) :
    BlocksSafe config (s.unexpected kind src r tag) := h

theorem BlocksSafe.takeUpstreamBite (h : BlocksSafe config s) (src : Fin 10) (tag : Half) :
    BlocksSafe config (s.takeUpstreamBite src tag) := by
  unfold State.takeUpstreamBite
  cases hk : s.slotOfTag tag with
  | none => exact h.unexpected ..
  | some k =>
    obtain ⟨-, e, he, -⟩ := (Laws.slotOfTag_eq_some s tag k).1 hk
    simp only [he, slotOfTag_passOver hk]
    split
    · rename_i hphase
      exact h.approach he hphase rfl rfl rfl rfl
    · exact (h.refreshTag tag).unexpected ..

/-- An APPROACHING entry takes the upstream TAIL_OUT. -/
theorem BlocksSafe.tailSeenAt (h : BlocksSafe config s) {k : Nat} {e : Entry} (he : s.table[k]? = some e)
    (hphase : e.phase = .approaching) : BlocksSafe config (s.tailSeenAt k) :=
  h.writeKept k fun x hx => by
    obtain rfl : e = x := Option.some.inj (he.symm.trans hx)
    exact ⟨rfl, hphase.symm, rfl, id⟩

theorem BlocksSafe.takeNamedTail (h : BlocksSafe config s) (src : Fin 10) {tag : Half} {k : Nat} {e : Entry}
    (hk : s.slotOfTag tag = some k) (he : s.table[k]? = some e) : BlocksSafe config (s.takeNamedTail src tag k e) := by
  unfold State.takeNamedTail
  cases hphase : e.phase with
  | approaching => exact .ite ((h.refreshTag tag).unexpected ..) (h.tailSeenAt he hphase)
  | announced =>
    simp only [slotOfTag_passOver hk]
    exact (h.approach he hphase rfl rfl rfl rfl).unexpected ..
  | inStand => exact (h.refreshTag tag).unexpected ..
  | tailApproaching => exact (h.refreshTag tag).unexpected ..
  | cleared => exact (h.refreshTag tag).unexpected ..

theorem BlocksSafe.takeUnnamedTail (h : BlocksSafe config s) (src : Fin 10) (tag : Half) :
    BlocksSafe config (s.takeUnnamedTail src tag) := by
  unfold State.takeUnnamedTail
  cases hk : s.oldest fun e => e.phase = .approaching with
  | none => exact h.unexpected ..
  | some k =>
    obtain ⟨e, he, hphase, -⟩ := (Laws.oldest_eq_some s _ k).1 hk
    simp only [he]
    exact .ite ((h.writeKept k fun e _ => Kept.refl e).unexpected ..) ((h.tailSeenAt he (by simpa using hphase)).unexpected ..)

end Table

/-! ### The marks (Table 6.3) -/

section Marks

variable {c : ConfigRecord} {s : State}

/-- A trim that ramps out keeps its current trim and loses its target (R154). -/
theorem BlocksSafe.rampOut (h : BlocksSafe (some c) s) : BlocksSafe (some c) s.rampOut := by
  have hramp (hst : s.trim.state ≠ .off) : TrimOk s.station s.table
      { s.trim with state := .rampOut, target := 0, saturated := false, ageTimer := none } := by
    obtain ⟨hrun, hconfirmed, c', hc', hdrives, hfits⟩ := h.1.trim.placed.resolve_left hst
    exact ⟨by simp [Trim.Tidy], .inr ⟨hrun, hconfirmed, c', hc', hdrives, fun e he hs own hown =>
      ⟨Nat.zero_le _, (hfits e he hs own hown).2⟩⟩⟩
  unfold State.rampOut
  cases hst : s.trim.state with
  | tracking => exact h.withTrim (hramp (by simp [hst]))
  | held => exact h.withTrim (hramp (by simp [hst]))
  | off => exact h
  | rampOut => exact h

/-- A looper out of rest is that of a RUNNING station that drives one. -/
theorem BlocksSafe.drives {config : Option ConfigRecord} (h : BlocksSafe config s) (hpark : s.looper.state ≠ .parked) (hhold : s.looper.state ≠ .holdOff) :
    s.station.state = .running ∧ ∃ c ∈ s.station.config, drivesLooper c s.station.position = true :=
  (h.1.looper.placed.resolve_left hpark).resolve_left hhold

theorem BlocksSafe.driven (h : BlocksSafe (some c) s) (hrun : s.station.state = .running)
    (hdrives : s.hasLooper c = true) :
    s.station.state = .running ∧ ∃ c ∈ s.station.config, drivesLooper c s.station.position = true :=
  ⟨hrun, c, h.2, hdrives⟩

/-- A LIFTING or REGULATING looper lowers (R133). -/
theorem BlocksSafe.lowerLooper (h : BlocksSafe (some c) s) : BlocksSafe (some c) (s.lowerLooper c) := by
  have hlower (hpark : s.looper.state ≠ .parked) (hhold : s.looper.state ≠ .holdOff) : LooperOk s.station s.table
      { s.looper with state := .lowering, liftTimer := none, settleTimer := none, lowerTimer := some c.lowerTime.toNat, integrator := 0 } := by
    obtain ⟨-, -, -, htimer, -, -⟩ := h.1.looper.tidy
    exact ⟨.inr (.inr (h.drives hpark hhold)), by simp, by simpa [Looper.Tidy] using mt htimer.1 hhold,
      fun _ _ => Nat.zero_le _⟩
  unfold State.lowerLooper
  cases hst : s.looper.state with
  | lifting p => exact (h.withLooper (hlower (by simp [hst]) (by simp [hst]))).rampOut
  | regulating => exact (h.withLooper (hlower (by simp [hst]) (by simp [hst]))).rampOut
  | parked => exact h
  | armed => exact h
  | lowering => exact h
  | holdOff => exact h

/-- An ARMED looper parks (R127). -/
theorem LooperOk.unarmed {st : Station} {table : List Entry} {l : Looper} (h : LooperOk st table l) (hl : l.state = .armed) :
    LooperOk st table { l with state := .parked } := by
  refine .of_resting (.inl rfl) ?_
  have := h.tidy
  simpa [Looper.Tidy, hl] using this

theorem BlocksSafe.looperUnconfirmed (h : BlocksSafe (some c) s) : BlocksSafe (some c) s.looperUnconfirmed := by
  unfold State.looperUnconfirmed
  cases hst : s.looper.state with
  | armed => exact h.withLooper (h.1.looper.unarmed hst)
  | parked => exact h
  | lifting p => exact h
  | regulating => exact h
  | lowering => exact h
  | holdOff => exact h

theorem BlocksSafe.looperArmPoint (h : BlocksSafe (some c) s) (hrun : s.station.state = .running) (e : Entry) :
    BlocksSafe (some c) (s.looperArmPoint c e) := by
  unfold State.looperArmPoint
  split
  · rename_i hdrives
    have htidy := h.1.looper.tidy
    cases hst : s.looper.state with
    | parked =>
      exact h.withLooper ⟨.inr (.inr (h.driven hrun hdrives)), by simp [Looper.arm], by simpa [Looper.Tidy, Looper.arm, hst] using htidy,
        h.1.looper.bounded⟩
    | lowering =>
      exact h.withLooper ⟨.inr (.inr (h.driven hrun hdrives)), by simp [hst], by simpa [Looper.Tidy, hst] using htidy, h.1.looper.bounded⟩
    | armed => exact h
    | lifting p => exact h
    | regulating => exact h
    | holdOff => exact h
  · exact h

theorem BlocksSafe.headLost (h : BlocksSafe (some c) s) (tag : Half) (inStand : Bool) :
    BlocksSafe (some c) (s.headLost c tag inStand) := by
  unfold State.headLost
  extract_lets raised queued held
  have hqueued : BlocksSafe (some c) queued := ((h.raise ..).setFlag ..).queueTelegram _
  have hheld : BlocksSafe (some c) held := .ite hqueued.toHoldOff hqueued
  exact hheld.autoStop ..

theorem reach_kept (m : Mark) (e : Entry) : Kept e (e.reach m) := by
  cases m <;> exact ⟨rfl, rfl, rfl, id⟩

theorem reach_downstream (m : Mark) (e : Entry) : (e.reach m).downstream = e.downstream := by
  cases m <;> rfl

/-- An entry that is not CONFIRMED may take any downstream status. -/
theorem BlocksSafe.writeDownstream (h : BlocksSafe (some c) s) {k : Nat} {e : Entry} (he : s.table[k]? = some e)
    (hdown : e.downstream ≠ .confirmed) (d : Downstream) :
    BlocksSafe (some c) (s.writeEntry k fun e => { e with downstream := d }) :=
  h.writeKept k fun x hx => by
    obtain rfl : e = x := Option.some.inj (he.symm.trans hx)
    exact ⟨rfl, rfl, rfl, fun hc => absurd hc hdown⟩

theorem BlocksSafe.windowExpired (h : BlocksSafe (some c) s) {k : Nat} {e : Entry} {x : Entry} (hx : s.table[k]? = some x)
    (hdown : x.downstream = e.downstream) : BlocksSafe (some c) (s.windowExpired c k e) := by
  unfold State.windowExpired
  split
  · rename_i hopen
    have hwritten := h.writeDownstream hx (by simp [hdown, hopen])
    split
    · exact .ite ((hwritten _).raise ..).looperUnconfirmed ((hwritten _).raise ..)
    · exact (hwritten _).headLost ..
  · exact h

theorem BlocksSafe.reportMark (h : BlocksSafe (some c) s) (k : Nat) (m : Mark) : BlocksSafe (some c) (s.reportMark c k m) := by
  unfold State.reportMark
  cases he : s.table[k]? with
  | none => exact h
  | some e =>
    have hrun := h.running_of_mem (List.mem_of_getElem? he)
    have hreached : BlocksSafe (some c) { s with table := s.table.modify k (Entry.reach m) } :=
      h.withKept (forall₂_kept_modify fun e _ => reach_kept m e)
    have hat : (s.table.modify k (Entry.reach m))[k]? = some (e.reach m) := by
      simp [he]
    cases m with
    | armPoint => exact .ite (hreached.looperArmPoint hrun e) hreached
    | windowLow =>
      dsimp only
      split
      · rename_i hdown
        exact hreached.writeDownstream hat (by simp [reach_downstream, hdown]) _
      · exact hreached
    | expiry => exact hreached.windowExpired hat (reach_downstream ..)
    | lowering => exact .ite hreached.lowerLooper.rampOut hreached
    | overdue => exact .ite (hreached.raise ..) hreached

theorem BlocksSafe.reportMarks (h : BlocksSafe (some c) s) (k : Nat) (ms : List Mark) :
    BlocksSafe (some c) (s.reportMarks c k ms) :=
  List.foldlRecOn ms _ (motive := BlocksSafe (some c)) h fun _ hu m _ => hu.reportMark k m

theorem BlocksSafe.evaluateEntry (h : BlocksSafe (some c) s) (k : Nat) : BlocksSafe (some c) (s.evaluateEntry c k) := by
  unfold State.evaluateEntry
  split
  · exact h
  · exact h.reportMarks ..

theorem BlocksSafe.evaluateMarks (h : BlocksSafe (some c) s) : BlocksSafe (some c) (s.evaluateMarks c) :=
  List.foldlRecOn _ _ (motive := BlocksSafe (some c)) h fun _ hu k _ => hu.evaluateEntry k

/-! ### The in-stand entry takes the upstream TAIL_OUT (R67) -/

theorem withUpstreamTail_fields (c : ConfigRecord) (s : State) (e : Entry) : (s.withUpstreamTail c e).tag = e.tag ∧
    (s.withUpstreamTail c e).window = e.window ∧ (s.withUpstreamTail c e).downstream = e.downstream ∧
    (s.withUpstreamTail c e).phase = .tailApproaching := by
  unfold State.withUpstreamTail
  extract_lets advanced stamp stamped
  split <;> exact ⟨rfl, rfl, rfl, rfl⟩

theorem BlocksSafe.tailApproaches (h : BlocksSafe (some c) s) {k : Nat} {e : Entry} (he : s.table[k]? = some e)
    (hphase : e.phase = .inStand) : BlocksSafe (some c) (s.tailApproaches c k) := by
  have hwritten : BlocksSafe (some c) (s.writeEntry k (s.withUpstreamTail c)) := by
    obtain ⟨before, after, htable, rfl⟩ := exists_split he
    obtain ⟨htag, hwindow, hdown, hnew⟩ := withUpstreamTail_fields c s e
    have hs : e.isInStand = true := (Laws.isInStand_iff e).2 (.inl hphase)
    refine h.rephase htable htag hwindow hdown (hs ▸ (Laws.isInStand_iff _).2 (.inr hnew)) (by simp [hphase, hnew, Phase.rank])
      fun x hx => ?_
    obtain ⟨hcleared, -, -⟩ := TableOk.around_standing (htable ▸ h.1.tracking) hs
    simp [hnew, hcleared x hx, Phase.rank]
  unfold State.tailApproaches
  extract_lets written
  split
  · exact hwritten
  · exact hwritten.reportMarks ..

theorem tailTaker_eq_some {tag : Half} {k : Nat} (h : s.tailTaker tag = some k) :
    ∃ e, s.table[k]? = some e ∧ e.phase = .inStand := by
  unfold State.tailTaker at h
  split at h
  · cases h
  · split at h
    · cases h
    · rename_i e he
      split at h
      · rename_i hcond
        obtain rfl := Option.some.inj h
        exact ⟨e, he, hcond.1⟩
      · cases h

theorem BlocksSafe.takeUpstreamTail (h : BlocksSafe (some c) s) (src : Fin 10) (tag : Half) :
    BlocksSafe (some c) (s.takeUpstreamTail c src tag) := by
  unfold State.takeUpstreamTail
  split
  · rename_i k hk
    obtain ⟨e, he, hphase⟩ := tailTaker_eq_some hk
    exact .ite ((h.tailApproaches he hphase).unexpected ..) (h.tailApproaches he hphase)
  · split
    · rename_i k hk
      split
      · exact h
      · rename_i e he
        exact h.takeNamedTail src hk he
    · exact h.takeUnnamedTail src tag

end Marks

end Sys2Proof.Proofs

/-! The hand-off at every step, continued: the trim, the looper and the downstream telegrams. -/

namespace Sys2Proof.Proofs

open Sys2Proof.Machine

/-! ### The trim (Chapter 8) -/

section Trims

variable {c : ConfigRecord} {s : State}

/-- The in-stand entry is the only one. -/
theorem BlocksSafe.inStand_unique (h : BlocksSafe (some c) s) {e : Entry} (he : s.inStand? = some e) :
    e ∈ s.table ∧ e.isInStand = true ∧ ∀ x ∈ s.table, x.isInStand = true → x = e := by
  have hone := h.1.tracking.standing_le_one
  obtain ⟨hmem, hs⟩ := (find?_isInStand_iff hone e).1 he
  refine ⟨hmem, hs, fun x hx hxs => ?_⟩
  have hfound := (find?_isInStand_iff hone x).2 ⟨hx, hxs⟩
  exact Option.some.inj (hfound.symm.trans he)

theorem clampTrim_natAbs (lim : Nat) (raw : Int) : (clampTrim lim raw).1.natAbs ≤ lim := by
  rw [Laws.clampTrim_fst]
  omega

/-- A new target lies within the limit of the own pass, or it is the old one. -/
theorem retarget_target (c : ConfigRecord) (e : Entry) (vd : Half) (s : State) : ∃ target saturated host,
    s.retarget c e vd = { s with trim := { s.trim with target := target, saturated := saturated }, host := host } ∧
      (target = s.trim.target ∨ ∀ own ∈ e.ownPass, target.natAbs ≤ trimLimitOf c own) := by
  unfold State.retarget
  split
  · rename_i own down hown hdown
    have hlim := clampTrim_natAbs (trimLimitOf c own) (rawTrim own down vd.toNat)
    have hwithin : ∀ x ∈ e.ownPass, (clampTrim (trimLimitOf c own) (rawTrim own down vd.toNat)).1.natAbs ≤ trimLimitOf c x := by
      intro x hx
      obtain rfl : own = x := Option.some.inj (hown.symm.trans hx)
      exact hlim
    dsimp only
    split
    · rename_i target hclamp
      rw [hclamp] at hwithin
      exact ⟨target, false, s.host, rfl, .inr hwithin⟩
    · rename_i target side hclamp
      rw [hclamp] at hwithin
      split
      · exact ⟨target, true, s.host, rfl, .inr hwithin⟩
      · exact ⟨target, true, _, rfl, .inr hwithin⟩
  · exact ⟨s.trim.target, s.trim.saturated, s.host, rfl, .inl rfl⟩

/-- Whatever its state, the trim lies within the limit of the in-stand entry's own pass: in OFF it is 0. -/
theorem BlocksSafe.trimFits (h : BlocksSafe (some c) s) : TrimFits c s.table s.trim := by
  obtain ⟨⟨-, hoff, hzero⟩, hplaced⟩ := h.1.trim
  rcases hplaced with hst | ⟨-, -, c', hc', -, hfits⟩
  · intro e _ _ own _
    rw [(hzero (.inl hst)).1, hoff hst]
    exact ⟨Nat.zero_le _, Nat.zero_le _⟩
  · obtain rfl : c = c' := Option.some.inj (h.2.symm.trans hc')
    exact hfits

/-- The trim tracks for a CONFIRMED in-stand entry of a station that trims (R149, R150). -/
theorem BlocksSafe.track (h : BlocksSafe (some c) s) (hconfirmed : StandingConfirmed s.table)
    (hdrives : drivesLooper c s.station.position = true) {e : Entry}
    (hpass : ∀ x ∈ s.table, x.isInStand = true → x.ownPass = e.ownPass) (vd : Half) : BlocksSafe (some c) (s.track c e vd) := by
  obtain ⟨target, saturated, host, htrack, htarget⟩ :=
    retarget_target c e vd { s with trim := { s.trim with state := .tracking, ageTimer := some c.reportAgeMs } }
  have hrun : s.station.state = .running := by
    obtain ⟨x, hx, -⟩ := hconfirmed
    exact h.running_of_mem hx
  have hfits := h.trimFits
  have htrim : TrimOk s.station s.table
      { s.trim with state := .tracking, ageTimer := some c.reportAgeMs, target := target, saturated := saturated } := by
    refine ⟨by simp [Trim.Tidy], .inr ⟨hrun, hconfirmed, c, h.2, hdrives, fun x hx hs own hown => ⟨?_, (hfits x hx hs own hown).2⟩⟩⟩
    rcases htarget with rfl | hwithin
    · exact (hfits x hx hs own hown).1
    · exact hwithin own (hpass x hx hs ▸ hown)
  unfold State.track
  rw [htrack]
  exact h.withTrim htrim

/-- The trim is held from TRACKING (R152). -/
theorem BlocksSafe.holdTrim {config : Option ConfigRecord} (h : BlocksSafe config s) (hst : s.trim.state = .tracking) (tag : Half)
    (r : HoldReason) : BlocksSafe config (s.holdTrim tag r) := by
  refine BlocksSafe.raise (h.withTrim ⟨by simp [Trim.Tidy], .inr ?_⟩) ..
  exact h.1.trim.placed.resolve_left (by simp [hst])

/-- The trim is told that the in-stand entry is CONFIRMED (R149). -/
theorem BlocksSafe.trimConfirmed (h : BlocksSafe (some c) s) (hconfirmed : StandingConfirmed s.table) {e : Entry}
    (hpass : ∀ x ∈ s.table, x.isInStand = true → x.ownPass = e.ownPass) (vd : Half) :
    BlocksSafe (some c) (s.trimConfirmed c e vd) := by
  unfold State.trimConfirmed
  split
  · rename_i hstart
    obtain ⟨hdrives, hoff, -⟩ := hstart
    obtain ⟨⟨htimer, hzero, htarget⟩, -⟩ := h.1.trim
    have hclear : BlocksSafe (some c) { s with trim := { s.trim with saturated := false } } :=
      h.withTrim (.of_off hoff ⟨htimer, hzero, fun hst => ⟨(htarget hst).1, rfl⟩⟩)
    exact hclear.track hconfirmed hdrives hpass vd
  · exact h

theorem BlocksSafe.takeSpeedReport (h : BlocksSafe (some c) s) (src : Fin 10) (tag speed : Half) :
    BlocksSafe (some c) (s.takeSpeedReport c src tag speed) := by
  unfold State.takeSpeedReport
  split
  · exact h
  · rename_i e he
    obtain ⟨-, -, honly⟩ := h.inStand_unique he
    have hpass : ∀ x ∈ s.table, x.isInStand = true → x.ownPass = e.ownPass := fun x hx hs => by rw [honly x hx hs]
    split
    · rename_i hmatch
      obtain ⟨hdrives, -, -⟩ := hmatch
      have hconfirmed (hst : s.trim.state ≠ .off) : StandingConfirmed s.table := (h.1.trim.placed.resolve_left hst).2.1
      cases hst : s.trim.state with
      | off => exact h
      | rampOut => exact h
      | tracking => exact .ite (h.track (hconfirmed (by simp [hst])) hdrives hpass speed) (h.holdTrim hst ..)
      | held => exact .ite (h.track (hconfirmed (by simp [hst])) hdrives hpass speed) h
    · exact h

theorem BlocksSafe.takeHandoffFault (h : BlocksSafe (some c) s) (src : Fin 10) (tag : Half) (code : Byte) :
    BlocksSafe (some c) (s.takeHandoffFault c src tag code) := by
  unfold State.takeHandoffFault
  split
  · exact h
  · split
    · extract_lets flagged
      have hflagged : BlocksSafe (some c) flagged := h.requestFlag _
      split
      · rename_i hst
        exact .ite (hflagged.holdTrim hst ..) hflagged
      · exact hflagged
      · exact hflagged
      · exact hflagged
    · exact h

theorem stepToward_natAbs {step lim : Nat} {target current : Int} (ht : target.natAbs ≤ lim) (hc : current.natAbs ≤ lim) :
    (stepToward step target current).natAbs ≤ lim := by
  have := Laws.stepToward_between step target current
  omega

/-- A sample steps the trim within its limit, and ends a ramp-out at 0 (R148, R155). -/
theorem BlocksSafe.stepTrim (h : BlocksSafe (some c) s) : BlocksSafe (some c) (s.stepTrim c) := by
  have hstep (hst : s.trim.state ≠ .off) : TrimOk s.station s.table
      { s.trim with current := stepToward c.trimStep.toNat s.trim.target s.trim.current } := by
    obtain ⟨⟨htimer, -, hzero⟩, hplaced⟩ := h.1.trim
    obtain ⟨hrun, hconfirmed, c', hc', hdrives, hfits⟩ := hplaced.resolve_left hst
    refine ⟨⟨htimer, fun hoff => absurd hoff hst, hzero⟩, .inr ⟨hrun, hconfirmed, c', hc', hdrives, fun e he hs own hown => ?_⟩⟩
    obtain ⟨ht, hc⟩ := hfits e he hs own hown
    exact ⟨ht, stepToward_natAbs ht hc⟩
  unfold State.stepTrim
  cases hst : s.trim.state with
  | off => exact h
  | tracking => exact h.withTrim (hstep (by simp [hst]))
  | held => exact h.withTrim (hstep (by simp [hst]))
  | rampOut =>
    dsimp only
    split
    · obtain ⟨htimer, -, hzero⟩ := h.1.trim.tidy
      refine h.withTrim (.of_off rfl ⟨?_, fun _ => rfl, fun _ => hzero (.inr hst)⟩)
      simpa [hst] using htimer
    · exact h.withTrim (hstep (by simp [hst]))

end Trims

/-! ### The looper (Chapter 7) -/

section Loopers

variable {c : ConfigRecord} {s : State}

theorem BlocksSafe.unsupervise (h : BlocksSafe (some c) s) (tag why : Half) : BlocksSafe (some c) (s.unsupervise tag why) :=
  (h.requestFlag _).raise ..

theorem BlocksSafe.looperFault (h : BlocksSafe (some c) s) (f : LooperFault) : BlocksSafe (some c) (s.looperFault c f) := by
  unfold State.looperFault
  extract_lets queued held
  have hheld : BlocksSafe (some c) held := (h.queueTelegram _).toHoldOff
  exact hheld.autoStop ..

/-- A PARKED or ARMED looper lifts for the CONFIRMED in-stand entry (R128). -/
theorem BlocksSafe.lift (h : BlocksSafe (some c) s) (hconfirmed : StandingConfirmed s.table) (hdrives : s.hasLooper c = true)
    {l : Looper} (htidy : l.Tidy) (hst : l.state = .parked ∨ l.state = .armed) (tag : Half) :
    BlocksSafe (some c) { s with looper := l.lift c tag } := by
  obtain ⟨x, hx, hxs⟩ := id hconfirmed
  have hrun := h.running_of_mem hx
  obtain ⟨hlift, hsettle, hlower, hhold, hpending, hzero⟩ := htidy
  refine h.withLooper ⟨.inr (.inr (h.driven hrun hdrives)), fun _ => hconfirmed, ?_, fun c' _ => ?_⟩
  · rcases hst with hst | hst <;> simpa [Looper.Tidy, Looper.lift, hst] using ⟨by simpa [hst] using hsettle,
      by simpa [hst] using hlower, by simpa [hst] using hhold, by simpa [hst] using hpending, by simpa [hst] using hzero⟩
  · have : l.integrator = 0 := hzero (by rcases hst with hst | hst <;> simp [hst])
    simp [Looper.lift, this]

/-- The looper is told that the in-stand entry is CONFIRMED (R128, R129). -/
theorem BlocksSafe.looperConfirmed (h : BlocksSafe (some c) s) (hconfirmed : StandingConfirmed s.table) (e : Entry) :
    BlocksSafe (some c) (s.looperConfirmed c e) := by
  unfold State.looperConfirmed
  split
  · rename_i hdrives
    have hpark (hst : s.looper.state = .parked ∨ s.looper.state = .armed) :
        LooperOk s.station s.table { s.looper with state := .parked } := by
      refine .of_resting (.inl rfl) ?_
      have := h.1.looper.tidy
      rcases hst with hst | hst <;> simpa [Looper.Tidy, hst] using this
    cases hst : s.looper.state with
    | parked => exact .ite (h.lift hconfirmed hdrives h.1.looper.tidy (.inl hst) _) ((h.withLooper (hpark (.inl hst))).unsupervise ..)
    | armed => exact .ite (h.lift hconfirmed hdrives h.1.looper.tidy (.inr hst) _) ((h.withLooper (hpark (.inr hst))).unsupervise ..)
    | lowering =>
      refine .ite ((h.withLooper (l := { s.looper with liftPending := true }) ⟨h.1.looper.placed, h.1.looper.confirmed, ?_, h.1.looper.bounded⟩).requestFlag _) h
      have := h.1.looper.tidy
      simpa [Looper.Tidy, hst] using this
    | holdOff => exact h.unsupervise ..
    | lifting p => exact h
    | regulating => exact h
  · exact h

/-- The looper's answer to a confirmation rewrites nothing of the table but flags. -/
theorem looperConfirmed_kept (c : ConfigRecord) (e : Entry) (s : State) : List.Forall₂ Kept s.table (s.looperConfirmed c e).table := by
  have hrefl : List.Forall₂ Kept s.table s.table := List.forall₂_same.2 fun x _ => Kept.refl x
  unfold State.looperConfirmed
  split
  · cases s.looper.state with
    | parked =>
      dsimp only
      split
      · exact hrefl
      · exact requestFlag_kept _ { s with looper := { s.looper with state := .parked } }
    | armed =>
      dsimp only
      split
      · exact hrefl
      · exact requestFlag_kept _ { s with looper := { s.looper with state := .parked } }
    | lowering =>
      dsimp only
      split
      · exact requestFlag_kept _ { s with looper := { s.looper with liftPending := true } }
      · exact hrefl
    | holdOff => exact requestFlag_kept _ s
    | lifting p => exact hrefl
    | regulating => exact hrefl
  · exact hrefl

/-- A LIFTING looper enters REGULATING (R131). -/
theorem BlocksSafe.regulate {config : Option ConfigRecord} (h : BlocksSafe config s)
    (hst : s.looper.state = .lifting .rise ∨ s.looper.state = .lifting .settle) : BlocksSafe config s.regulate := by
  refine BlocksSafe.raise (h.withLooper ⟨.inr (.inr (h.drives ?_ ?_)), fun _ => h.1.looper.confirmed ?_, ?_, fun _ _ => Nat.zero_le _⟩) ..
  · rcases hst with hst | hst <;> simp [hst]
  · rcases hst with hst | hst <;> simp [hst]
  · exact hst.imp_right .inl
  · have := h.1.looper.tidy
    rcases hst with hst | hst <;> simp_all [Looper.Tidy]

theorem BlocksSafe.riseComplete (h : BlocksSafe (some c) s) (hst : s.looper.state = .lifting .rise) :
    BlocksSafe (some c) (s.riseComplete c) := by
  refine .ite (h.regulate (.inl hst)) (h.withLooper ⟨.inr (.inr (h.drives (by simp [hst]) (by simp [hst]))),
    fun _ => h.1.looper.confirmed (.inl hst), ?_, h.1.looper.bounded⟩)
  have := h.1.looper.tidy
  simp_all [Looper.Tidy]

/-- The integrator takes a sample (R132). -/
theorem BlocksSafe.policeTension (h : BlocksSafe (some c) s) (hst : s.looper.state = .regulating) (ref tension : Half) :
    BlocksSafe (some c) (s.policeTension c ref tension) := by
  have hintegrator {n : Nat} (hn : n ≤ c.tensionLimit.toNat) :
      BlocksSafe (some c) { s with looper := { s.looper with integrator := n } } := by
    obtain ⟨hplaced, hconfirmed, htidy, -⟩ := h.1.looper
    refine h.withLooper ⟨hplaced, hconfirmed, by simpa [Looper.Tidy, hst] using htidy, fun c' hc' => ?_⟩
    obtain rfl : c = c' := Option.some.inj (h.2.symm.trans hc')
    exact hn
  unfold State.policeTension
  split
  · extract_lets sum
    exact .ite (((h.raise ..).setFlag ..).looperFault _) (hintegrator (Nat.min_le_left ..))
  · have := h.1.looper.bounded c h.2
    exact hintegrator (by omega)

/-- The lowering completes (R135). -/
theorem BlocksSafe.lowerComplete (h : BlocksSafe (some c) s) (hst : s.looper.state = .lowering) (hdrives : s.hasLooper c = true) :
    BlocksSafe (some c) (s.lowerComplete c) := by
  have htidy := h.1.looper.tidy
  have hdone (l : LooperState) (hl : l = .parked ∨ l = .armed) : Looper.Tidy { s.looper with
      lowerTimer := none, armPending := false, liftPending := false, state := l } := by
    obtain ⟨hlift, hsettle, -, hhold, -, hzero⟩ := htidy
    rcases hl with rfl | rfl <;> exact ⟨by simpa [hst] using hlift, by simpa [hst] using hsettle, by simp,
      by simpa [hst] using hhold, by simp, by simpa [hst] using hzero⟩
  have hpark : BlocksSafe (some c) { s with looper := { s.looper with
      lowerTimer := none, armPending := false, liftPending := false, state := .parked } } :=
    h.withLooper (.of_resting (.inl rfl) (hdone _ (.inl rfl)))
  unfold State.lowerComplete
  extract_lets done park
  split
  · rename_i e he
    obtain ⟨hmem, hs, -⟩ := h.inStand_unique he
    split
    · rename_i hlift
      have hconfirmed : StandingConfirmed s.table := ⟨e, hmem, hs, hlift.2⟩
      exact (hpark.lift hconfirmed hdrives (hdone _ (.inl rfl)) (.inl rfl) e.tag).raise ..
    · refine .ite (h.withLooper ⟨.inr (.inr (h.drives (by simp [hst]) (by simp [hst]))), by simp [Looper.arm], hdone _ (.inr rfl),
        h.1.looper.bounded⟩) hpark
  · exact hpark

theorem BlocksSafe.looperSample (h : BlocksSafe (some c) s) (x : Sample) : BlocksSafe (some c) (s.looperSample c x) := by
  unfold State.looperSample
  split
  · rename_i hdrives
    split
    · rename_i hst
      exact .ite (h.riseComplete hst) h
    · rename_i hst
      split
      · exact h.policeTension hst ..
      · exact h
    · rename_i hst
      exact .ite (h.lowerComplete hst hdrives) h
    all_goals exact h
  · exact h

theorem BlocksSafe.looperSampleLoss (h : BlocksSafe (some c) s) : BlocksSafe (some c) (s.looperSampleLoss c) := by
  unfold State.looperSampleLoss
  cases s.looper.state with
  | lifting p => exact h.looperFault _
  | regulating => exact h.looperFault _
  | lowering => exact h.looperFault _
  | parked => exact h
  | armed => exact h
  | holdOff => exact h

theorem BlocksSafe.looperLoadOff_looper (h : BlocksSafe (some c) s) : BlocksSafe (some c) (s.looperLoadOff c) := by
  unfold State.looperLoadOff
  cases hst : s.looper.state with
  | armed => exact h.withLooper (h.1.looper.unarmed hst)
  | lifting p => exact h.lowerLooper
  | regulating => exact h.lowerLooper
  | parked => exact h
  | lowering => exact h
  | holdOff => exact h

/-- The looper leaves HOLD_OFF (R139). -/
theorem BlocksSafe.leaveHoldOff {config : Option ConfigRecord} (h : BlocksSafe config s) (hst : s.looper.state = .holdOff) :
    BlocksSafe config { s with looper := s.looper.leaveHoldOff } := by
  refine h.withLooper (.of_resting (.inl rfl) ?_)
  obtain ⟨hlift, hsettle, hlower, -, hpending, hzero⟩ := h.1.looper.tidy
  exact ⟨by simpa [Looper.leaveHoldOff, hst] using hlift, by simpa [Looper.leaveHoldOff, hst] using hsettle,
    by simpa [Looper.leaveHoldOff, hst] using hlower, by simp [Looper.leaveHoldOff],
    fun _ => hpending (by simp [hst]), fun _ => hzero (by simp [hst])⟩

end Loopers

/-! ### The downstream telegrams (R73 to R76) -/

section Downstream

variable {c : ConfigRecord} {s : State}

/-- Where the in-stand entry has been rewritten to CONFIRMED the looper and the trim are told. -/
theorem BlocksSafe.confirmed (h : BlocksSafe (some c) s) {e : Entry} (he : e ∈ s.table) (hs : e.isInStand = true)
    (hdown : e.downstream = .confirmed) (vd : Half) : BlocksSafe (some c) ((s.looperConfirmed c e).trimConfirmed c e vd) := by
  have hconfirmed : StandingConfirmed s.table := ⟨e, he, hs, hdown⟩
  have hkept := looperConfirmed_kept c e s
  have hone := h.1.tracking.standing_le_one
  refine (h.looperConfirmed hconfirmed e).trimConfirmed (hconfirmed.of_kept hkept) (fun x hx hxs => ?_) vd
  obtain ⟨y, hy, hk⟩ := exists_left_of_forall₂ hkept x hx
  obtain ⟨-, -, honly⟩ := h.inStand_unique ((find?_isInStand_iff hone e).2 ⟨he, hs⟩)
  rw [hk.ownPass, honly y hy (hk.isInStand ▸ hxs)]

/-- The entry matched to a downstream HEAD_BITE is confirmed (R74). -/
theorem BlocksSafe.confirmEntry (h : BlocksSafe (some c) s) {k : Nat} {e : Entry} (he : s.table[k]? = some e) (tag speed : Half) :
    BlocksSafe (some c) (s.confirmEntry c k e tag speed) := by
  unfold State.confirmEntry
  extract_lets mismatch written reported told
  have hwritten : BlocksSafe (some c) written := h.writeKept k fun x _ => ⟨rfl, rfl, rfl, fun _ => rfl⟩
  have hat : ∀ x, written.table[k]? = some x → x.isInStand = e.isInStand ∧ x.downstream = .confirmed := by
    intro x hx
    rw [show written.table[k]? = (s.table.modify k _)[k]? from rfl, List.getElem?_modify_eq, he] at hx
    obtain rfl := Option.some.inj hx
    exact ⟨rfl, rfl⟩
  have hreported : BlocksSafe (some c) reported := .ite (hwritten.raise ..) hwritten
  have htable : told.table = written.table := by
    have hr : reported.table = written.table := by
      dsimp only [reported]
      split <;> rfl
    dsimp only [told]
    split <;> exact hr
  have htold : BlocksSafe (some c) told := by
    dsimp only [told]
    split
    · exact hreported.raise ..
    · exact hreported.raise ..
    all_goals exact hreported
  split
  · rename_i hs
    split
    · exact htold
    · rename_i x hx
      obtain ⟨hxs, hxd⟩ := hat x (htable ▸ hx)
      exact htold.confirmed (List.mem_of_getElem? hx) (hxs.trans hs) hxd speed
  · exact htold

theorem BlocksSafe.takeBiteByOrder (h : BlocksSafe (some c) s) (src : Fin 10) (tag speed : Half) :
    BlocksSafe (some c) (s.takeBiteByOrder c src tag speed) := by
  unfold State.takeBiteByOrder
  split
  · exact h.unexpected ..
  · split
    · exact h
    · rename_i e he
      exact h.confirmEntry he tag speed

theorem BlocksSafe.takeDownstreamBite (h : BlocksSafe (some c) s) (src : Fin 10) (tag speed : Half) :
    BlocksSafe (some c) (s.takeDownstreamBite c src tag speed) := by
  unfold State.takeDownstreamBite
  split
  · exact h.takeBiteByOrder ..
  · split
    · exact h
    · rename_i e he
      cases e.downstream with
      | lost => exact (h.refreshTag tag).raise ..
      | confirmed => exact (h.refreshTag tag).unexpected ..
      | noHead => exact (h.refreshTag tag).takeBiteByOrder ..
      | pending => exact h.confirmEntry he tag speed
      | inWindow => exact h.confirmEntry he tag speed
      | untimed => exact h.confirmEntry he tag speed
      | unconfirmed => exact h.confirmEntry he tag speed

theorem BlocksSafe.retireEntry {config : Option ConfigRecord} (h : BlocksSafe config s) {k : Nat} {e : Entry}
    (he : s.table[k]? = some e) (hphase : e.phase = .cleared) : BlocksSafe config (s.retireEntry k e) :=
  (h.removeEntry he (isInStand_eq_false_of_phase (.inr (.inr hphase)))).raise ..

theorem BlocksSafe.takeDownstreamTail (h : BlocksSafe (some c) s) (src : Fin 10) (tag : Half) :
    BlocksSafe (some c) (s.takeDownstreamTail src tag) := by
  unfold State.takeDownstreamTail
  split
  · split
    · exact h
    · rename_i e he
      split
      · rename_i hphase
        exact h.retireEntry he hphase
      · exact (h.refreshTag tag).unexpected ..
  · cases hk : s.oldest fun e => e.phase = .cleared with
    | none => exact h.unexpected ..
    | some k =>
      obtain ⟨e, he, hphase, -⟩ := (Laws.oldest_eq_some s _ k).1 hk
      simp only [he]
      exact h.retireEntry he (by simpa using hphase)

theorem BlocksSafe.takeHeadBite (h : BlocksSafe (some c) s) (src : Fin 10) (tag : Half) (anonymous : Bool) (speed : Half) :
    BlocksSafe (some c) (s.takeHeadBite c src tag anonymous speed) :=
  .ite (h.takeUpstreamBite ..) (.ite (h.takeDownstreamBite ..) h)

theorem BlocksSafe.takeTailOut (h : BlocksSafe (some c) s) (src : Fin 10) (tag : Half) (anonymous : Bool) :
    BlocksSafe (some c) (s.takeTailOut c src tag anonymous) :=
  .ite (h.takeUpstreamTail ..) (.ite (h.takeDownstreamTail ..) h)

theorem markGap_kept (e : Entry) : Kept e e.markGap := by
  unfold Entry.markGap
  split
  · exact ⟨rfl, rfl, rfl, id⟩
  · exact Kept.refl e

theorem BlocksSafe.takeGapNotice {config : Option ConfigRecord} (h : BlocksSafe config s) (src : Fin 10) :
    BlocksSafe config (s.takeGapNotice src) :=
  .ite (h.withKept (forall₂_kept_map markGap_kept)) h

/-! ### The piece telegrams (R4, R63, R79) -/

theorem BlocksSafe.takePieceEntry (h : BlocksSafe (some c) s) (hrun : s.station.state = .running) (src : Fin 10) (r : PieceRecord) :
    BlocksSafe (some c) (s.takePieceEntry c src r) := by
  unfold State.takePieceEntry
  split
  · exact (h.refreshTag _).unexpected ..
  · split
    · exact h.raise ..
    · extract_lets e
      split
      · exact (h.refreshTag _).raise ..
      · exact h.raise ..
      · rename_i hu
        exact (h.createEntry hrun rfl hu).raise ..

theorem BlocksSafe.withdrawEntry {config : Option ConfigRecord} (h : BlocksSafe config s) {k : Nat} {e : Entry}
    (he : s.table[k]? = some e) (hout : e.isInStand = false) (r : WithdrawReason) : BlocksSafe config (s.withdrawEntry k e r) :=
  (h.removeEntry he hout).raise ..

theorem BlocksSafe.takePieceWithdraw {config : Option ConfigRecord} (h : BlocksSafe config s) (src : Fin 10) (tag : Half) :
    BlocksSafe config (s.takePieceWithdraw src tag) := by
  unfold State.takePieceWithdraw
  split
  · exact (h.refreshTag _).unexpected ..
  · split
    · exact h.unexpected ..
    · split
      · exact h
      · rename_i e he
        split
        · rename_i hphase
          exact h.withdrawEntry he (isInStand_eq_false_of_phase (.inl hphase)) _
        · exact (h.refreshTag _).unexpected ..

end Downstream

end Sys2Proof.Proofs

/-! The hand-off at every step, continued: the own bite, the own tail-out and the samples. -/

namespace Sys2Proof.Proofs

open Sys2Proof.Machine

variable {c : ConfigRecord} {s : State}

/-! ### The detector's states -/

/-- The detector moves without coming to hold a load or letting one go. -/
theorem BlocksSafe.withDetector {config : Option ConfigRecord} (h : BlocksSafe config s) {d : DetectorState}
    (hd : d.holdsLoad = s.detector.state.holdsLoad) (hst : s.station.state = .running ∨ s.station.state = .stopped) :
    BlocksSafe config (s.withDetector d) := by
  obtain ⟨⟨⟨hroom, htags, horder, hstanding, houtside⟩, hconfigured, ⟨-, hverify⟩, hlooper, htrim⟩, hconfig⟩ := h
  refine ⟨⟨⟨hroom, htags, horder, fun hrun => ?_, houtside⟩, hconfigured, ⟨.inr hst, ?_⟩, hlooper, htrim⟩, hconfig⟩
  · exact (hstanding hrun).trans (by rw [← hd]; rfl)
  · exact hverify.imp_right fun ⟨hrun, hload⟩ => ⟨hrun, hd.trans hload⟩

/-- In STOPPED the detector moves as it will: there is no table and no verification. -/
theorem BlocksSafe.withDetector_stopped {config : Option ConfigRecord} (h : BlocksSafe config s) (hst : s.station.state = .stopped)
    {d : Detector} (hd : d.verify = .idle) : BlocksSafe config { s with detector := d } := by
  obtain ⟨⟨⟨hroom, htags, horder, -, houtside⟩, hconfigured, -, hlooper, htrim⟩, hconfig⟩ := h
  exact ⟨⟨⟨hroom, htags, horder, fun hrun => absurd (hst.symm.trans hrun) (by simp), houtside⟩, hconfigured, ⟨.inr (.inr hst), .inl hd⟩,
    hlooper, htrim⟩, hconfig⟩

/-- A verification abandoned or ended. -/
theorem BlocksSafe.verifyIdle {config : Option ConfigRecord} (h : BlocksSafe config s) :
    BlocksSafe config { s with detector := { s.detector with verify := .idle } } := by
  obtain ⟨⟨⟨hroom, htags, horder, hstanding, houtside⟩, hconfigured, hdetector, hlooper, htrim⟩, hconfig⟩ := h
  exact ⟨⟨⟨hroom, htags, horder, hstanding, houtside⟩, hconfigured, ⟨hdetector.unloaded, .inl rfl⟩, hlooper, htrim⟩, hconfig⟩

/-- With no load held no entry is CONFIRMED in-stand. -/
theorem BlocksSafe.not_standing {config : Option ConfigRecord} (h : BlocksSafe config s) (hrun : s.station.state = .running)
    (hload : s.detector.state.holdsLoad = false) : s.table.countP Entry.isInStand = 0 := by
  rw [h.1.tracking.standing hrun, hload]
  rfl

/-- A looper that needs no CONFIRMED entry needs none of another table. -/
theorem LooperOk.ofEmpty {st : Station} {l : Looper} (h : LooperOk st [] l) (table : List Entry) : LooperOk st table l :=
  ⟨h.placed, fun hl => absurd (h.confirmed hl) (by simp [StandingConfirmed]), h.tidy, h.bounded⟩

theorem TrimOk.ofEmpty {st : Station} {t : Trim} (h : TrimOk st [] t) (table : List Entry) : TrimOk st table t :=
  ⟨h.tidy, h.placed.imp_right fun ⟨_, hc, _⟩ => absurd hc (by simp [StandingConfirmed])⟩

/-! ### The own bite (R69, R70) -/

/-- A RUNNING station whose detector has just become LOADED, no entry being in-stand yet: its looper and its trim work for none. -/
structure JustLoaded (c : ConfigRecord) (s : State) : Prop where
  running : s.station.state = .running
  config : s.station.config = some c
  loaded : s.detector.state = .loaded
  idle : s.detector.verify = .idle
  looper : LooperOk s.station [] s.looper
  trim : TrimOk s.station [] s.trim

theorem BlocksSafe.justLoaded (h : BlocksSafe (some c) s) (hrun : s.station.state = .running)
    (hload : s.detector.state.holdsLoad = false) : JustLoaded c (s.withDetector .loaded) := by
  have hnone : ¬ StandingConfirmed s.table := by
    rintro ⟨e, he, hs, -⟩
    exact List.countP_eq_zero.1 (h.not_standing hrun hload) e he hs
  obtain ⟨⟨-, -, ⟨-, hverify⟩, ⟨hplaced, hconfirmed, htidy, hbounded⟩, hotidy, hoplaced⟩, hconfig⟩ := h
  refine ⟨hrun, hconfig, rfl, hverify.resolve_right fun hv => ?_, ⟨hplaced, fun hl => absurd (hconfirmed hl) hnone, htidy, hbounded⟩,
    hotidy, hoplaced.imp_right fun ⟨_, hc, _⟩ => absurd hc hnone⟩
  simp [hload] at hv

/-- The foremost piece comes to the stand: its entry, the older ones CLEARED and no other in-stand, takes its place at the stand. -/
theorem JustLoaded.bitten (h : JustLoaded c s) {d : DetectorState} {before after : List Entry} {e : Entry}
    (htable : s.table = before ++ e :: after) (hok : TableOk .running d s.table) (hbefore : ∀ x ∈ before, x.phase = .cleared)
    (hafter : after.countP Entry.isInStand = 0) (hrank : e.phase.rank ≤ 2) {f : Entry → Entry} (htag : (f e).tag = e.tag)
    (hphase : (f e).phase = .inStand ∨ (f e).phase = .tailApproaching) :
    BlocksSafe (some c) (s.writeEntry before.length f) := by
  obtain ⟨hrun, hconfig, hloaded, hidle, hlooper, htrim⟩ := h
  have hs : (f e).isInStand = true := (Laws.isInStand_iff _).2 hphase
  refine ⟨⟨?_, fun _ => by simp [hconfig], ⟨.inr (.inl hrun), .inl hidle⟩, hlooper.ofEmpty _, htrim.ofEmpty _⟩, hconfig⟩
  show TableOk s.station.state s.detector.state (s.table.modify before.length fun e => { f e with age := 0 })
  rw [hrun, hloaded, htable, modify_split]
  refine TableOk.rephase (htable ▸ hok) htag ?_ (fun x hx => ?_) fun _ => ?_
  · show e.phase.rank ≤ (f e).phase.rank
    have hlate : 2 ≤ (f e).phase.rank := by rcases hphase with hp | hp <;> simp [hp, Phase.rank]
    omega
  · show (f e).phase.rank ≤ x.phase.rank
    rcases hphase with hp | hp <;> simp [hp, hbefore x hx, Phase.rank]
  · have hnone : before.countP Entry.isInStand = 0 :=
      List.countP_eq_zero.2 fun x hx => by simp [isInStand_eq_false_of_phase (.inr (.inr (hbefore x hx)))]
    have hs' : Entry.isInStand { f e with age := 0 } = true := hs
    rw [List.countP_append, List.countP_cons, hnone, hafter, hs']
    rfl

theorem BlocksSafe.beginVerification (h : BlocksSafe (some c) s) (hrun : s.station.state = .running)
    (hload : s.detector.state.holdsLoad = true) (e : Entry) (b : BiteReport) : BlocksSafe (some c) (s.beginVerification c e b) := by
  unfold State.beginVerification
  split
  · split
    · obtain ⟨⟨⟨hroom, htags, horder, hstanding, houtside⟩, hconfigured, hdetector, hlooper, htrim⟩, hconfig⟩ := h
      exact ⟨⟨⟨hroom, htags, horder, hstanding, houtside⟩, hconfigured, ⟨.inr (.inl hrun), .inr ⟨hrun, hload⟩⟩, hlooper, htrim⟩, hconfig⟩
    · exact h
  · exact h

theorem BlocksSafe.marksAtBite (h : BlocksSafe (some c) s) (k : Nat) : BlocksSafe (some c) (s.marksAtBite c k) :=
  BlocksSafe.evaluateEntry (h.writeKept k (f := fun e =>
    { e with
      headMarks := if e.downstream = .pending then e.headMarksAt c s.station.position else e.headMarks
      tailMarks := if e.flags.tailSeen ∧ s.stand.encoderStall = false then e.tailMarksAt c s.station.position else e.tailMarks })
    fun _ _ => ⟨rfl, rfl, rfl, id⟩) k

theorem JustLoaded.biteEntry (h : JustLoaded c s) {d : DetectorState} {before after : List Entry} {e : Entry}
    (htable : s.table = before ++ e :: after) (hok : TableOk .running d s.table) (hbefore : ∀ x ∈ before, x.phase = .cleared)
    (hafter : after.countP Entry.isInStand = 0) (hrank : e.phase.rank ≤ 2) (candidate : Half) (b : BiteReport) :
    BlocksSafe (some c) (s.biteEntry c before.length e candidate b) := by
  unfold State.biteEntry
  extract_lets status written queued bitten _ timed verifying
  have hwritten : BlocksSafe (some c) written := by
    refine h.bitten htable hok hbefore hafter hrank ?_ ?_
    · rfl
    · show (if e.flags.tailSeen = true then Phase.tailApproaching else Phase.inStand) = _ ∨
        (if e.flags.tailSeen = true then Phase.tailApproaching else Phase.inStand) = _
      split
      · exact .inr rfl
      · exact .inl rfl
  have hbitten : BlocksSafe (some c) bitten := (hwritten.queueTelegram _).raise ..
  have htimed : BlocksSafe (some c) timed := .ite (hbitten.withTrim ⟨hbitten.1.trim.tidy, hbitten.1.trim.placed⟩) hbitten
  have hframe : timed.station = s.station ∧ timed.detector = s.detector := by
    have hq : bitten.station = s.station ∧ bitten.detector = s.detector :=
      ⟨Laws.queueTelegram_station _ written, Laws.queueTelegram_detector _ written⟩
    dsimp only [timed]
    split <;> exact hq
  have hverifying : BlocksSafe (some c) verifying :=
    htimed.beginVerification (by rw [hframe.1, h.running]) (by rw [hframe.2, h.loaded]; rfl) e b
  exact hverifying.marksAtBite _

/-- An entry that is neither ANNOUNCED, nor APPROACHING, nor in-stand is CLEARED. -/
theorem cleared_of_not {x : Entry} (hannounced : x.phase ≠ .announced) (happroaching : x.phase ≠ .approaching)
    (hout : x.isInStand = false) : x.phase = .cleared := by
  cases hp : x.phase <;> simp_all [Entry.isInStand]

/-- The table around its first entry with a property. -/
theorem split_of_oldest {p : Entry → Bool} {k : Nat} (h : s.oldest p = some k) : ∃ before e after,
    s.table = before ++ e :: after ∧ before.length = k ∧ p e = true ∧ ∀ x ∈ before, p x = false := by
  obtain ⟨e, he, hp, hfirst⟩ := (Laws.oldest_eq_some s p k).1 h
  obtain ⟨before, after, htable, rfl⟩ := exists_split he
  refine ⟨before, e, after, htable, rfl, hp, fun x hx => ?_⟩
  obtain ⟨j, hj, hjx⟩ := List.getElem_of_mem hx
  exact hfirst j hj x (by rw [htable, List.getElem?_append_left hj, List.getElem?_eq_getElem hj, hjx]; rfl)

/-- With every entry CLEARED there is always room for a new one. -/
theorem makeRoom_of_cleared (h : ∀ e ∈ s.table, e.phase = .cleared) : ∃ u, s.makeRoom = some u := by
  unfold State.makeRoom
  split
  · exact ⟨s, rfl⟩
  · rename_i hfull
    cases hk : s.oldest fun e => e.phase = .cleared with
    | some k =>
      obtain ⟨e, he, -⟩ := (Laws.oldest_eq_some s _ k).1 hk
      simp only [he]
      exact ⟨_, rfl⟩
    | none =>
      obtain ⟨e, he⟩ : ∃ e, e ∈ s.table := List.exists_mem_of_length_pos (by unfold tableRoom at hfull; omega)
      have := (Laws.oldest_eq_none s _).1 hk e he
      simp [h e he] at this

/-- A table of CLEARED entries with the new anonymous entry in-stand. -/
theorem TableOk.anonymous {d : DetectorState} {table : List Entry} (h : TableOk .running d table) (hroom : table.length < tableRoom)
    (hcleared : ∀ e ∈ table, e.phase = .cleared) : TableOk .running .loaded (table ++ [anonymousEntry]) := by
  obtain ⟨-, htags, horder, -, -⟩ := h
  refine ⟨by simpa using hroom, ?_, ?_, fun _ => ?_, fun hst => absurd rfl hst⟩
  · refine List.pairwise_append.2 ⟨htags, List.pairwise_singleton .., fun x _ y hy htag => ?_⟩
    obtain rfl := List.mem_singleton.1 hy
    exact htag
  · refine List.pairwise_append.2 ⟨horder, List.pairwise_singleton .., fun x hx y hy => ?_⟩
    obtain rfl := List.mem_singleton.1 hy
    simp [anonymousEntry, hcleared x hx, Phase.rank]
  · have hnone : table.countP Entry.isInStand = 0 :=
      List.countP_eq_zero.2 fun x hx => by simp [isInStand_eq_false_of_phase (.inr (.inr (hcleared x hx)))]
    rw [List.countP_append, hnone]
    rfl

theorem JustLoaded.biteAnonymous (h : JustLoaded c s) {d : DetectorState} (hok : TableOk .running d s.table)
    (hcleared : ∀ e ∈ s.table, e.phase = .cleared) (b : BiteReport) : BlocksSafe (some c)
      (match s.createEntry anonymousEntry with
        | .error why => s.refusePiece 0 why
        | .ok s => (s.raise .anonymousPiece 0 (BitVec.ofNat 16 (s.table.length - 1))).biteEntry c (s.table.length - 1) anonymousEntry 2 b) := by
  obtain ⟨u, hu⟩ := makeRoom_of_cleared hcleared
  have hcreate : s.createEntry anonymousEntry = .ok { u with table := u.table ++ [anonymousEntry] } := by
    have hnew : s.slotOfTag anonymousEntry.tag = none := (Laws.slotOfTag_eq_none s _).2 (.inl rfl)
    simp [State.createEntry, hnew, hu]
  have hroom : u.table.length < tableRoom ∧ u.table.Sublist s.table ∧
      JustLoaded c { u with table := u.table ++ [anonymousEntry] } := by
    obtain ⟨rfl, hroom⟩ | ⟨k, e, he, -, rfl⟩ := Laws.makeRoom_eq s u hu
    · exact ⟨hroom, List.Sublist.refl _, h.1, h.2, h.3, h.4, h.5, h.6⟩
    · refine ⟨?_, List.eraseIdx_sublist .., h.1, h.2, h.3, h.4, h.5, h.6⟩
      obtain ⟨hk, -⟩ := List.getElem?_eq_some_iff.1 he
      have := hok.room
      show (s.table.eraseIdx k).length < tableRoom
      rw [List.length_eraseIdx_of_lt hk]
      omega
  obtain ⟨hroom, hsub, hloaded⟩ := hroom
  have hcleared' : ∀ e ∈ u.table, e.phase = .cleared := fun e he => hcleared e (hsub.subset he)
  have hrest : TableOk .running .unloaded u.table := by
    refine ⟨hroom.le, hok.tags.sublist hsub, hok.order.sublist hsub, fun _ => ?_, fun hst => absurd rfl hst⟩
    exact List.countP_eq_zero.2 fun x hx => by simp [isInStand_eq_false_of_phase (.inr (.inr (hcleared' x hx)))]
  rw [hcreate]
  dsimp only
  rw [List.length_append, List.length_singleton, Nat.add_sub_cancel]
  exact JustLoaded.biteEntry (s := State.raise .anonymousPiece 0 _ { u with table := u.table ++ [anonymousEntry] })
    ⟨hloaded.1, hloaded.2, hloaded.3, hloaded.4, hloaded.5, hloaded.6⟩ rfl (hrest.anonymous hroom hcleared') hcleared' rfl le_rfl 2 b

/-- A confirmed bite is taken by the foremost piece (R69). -/
theorem JustLoaded.takeBite (h : JustLoaded c s) {d : DetectorState} (hok : TableOk .running d s.table)
    (hnone : s.table.countP Entry.isInStand = 0) (b : BiteReport) : BlocksSafe (some c) (s.takeBite c b) := by
  have hout : ∀ x ∈ s.table, x.isInStand = false := fun x hx => by simpa using List.countP_eq_zero.1 hnone x hx
  have hafter {before after : List Entry} {e : Entry} (htable : s.table = before ++ e :: after) : after.countP Entry.isInStand = 0 :=
    List.countP_eq_zero.2 fun x hx => by simp [hout x (by simp [htable, hx])]
  unfold State.takeBite
  cases hk : s.oldest fun e => e.phase = .approaching with
  | some k =>
    obtain ⟨before, e, after, htable, rfl, hp, hfirst⟩ := split_of_oldest hk
    have hphase : e.phase = .approaching := by simpa using hp
    have hbefore : ∀ x ∈ before, x.phase = .cleared := fun x hx => by
      obtain ⟨-, -, horder⟩ := List.pairwise_append.1 (htable ▸ hok.order)
      have hrank := horder x hx e (List.mem_cons_self ..)
      refine cleared_of_not (fun hx' => ?_) (by simpa using hfirst x hx) (hout x (by simp [htable, hx]))
      simp [hx', hphase, Phase.rank] at hrank
    have hat : s.table[before.length]? = some e := by simp [htable]
    simp only [hat]
    exact h.biteEntry htable hok hbefore (hafter htable) (by simp [hphase, Phase.rank]) 0 b
  | none =>
    have hnot : ∀ x ∈ s.table, x.phase ≠ .approaching := fun x hx => by simpa using (Laws.oldest_eq_none s _).1 hk x hx
    dsimp only
    cases hk' : s.oldest fun e => e.phase = .announced with
    | some k =>
      obtain ⟨before, e, after, htable, rfl, hp, hfirst⟩ := split_of_oldest hk'
      have hphase : e.phase = .announced := by simpa using hp
      have hbefore : ∀ x ∈ before, x.phase = .cleared := fun x hx =>
        have hmem : x ∈ s.table := by simp [htable, hx]
        cleared_of_not (by simpa using hfirst x hx) (hnot x hmem) (hout x hmem)
      have hat : s.table[before.length]? = some e := by simp [htable]
      simp only [hat]
      split
      · exact h.biteEntry htable hok hbefore (hafter htable) (by simp [hphase, Phase.rank]) 1 b
      · exact JustLoaded.biteEntry (s := s.raise .upstreamNotSeen e.tag 0) ⟨h.1, h.2, h.3, h.4, h.5, h.6⟩ htable hok hbefore
          (hafter htable) (by simp [hphase, Phase.rank]) 1 b
    | none =>
      have hnot' : ∀ x ∈ s.table, x.phase ≠ .announced := fun x hx => by simpa using (Laws.oldest_eq_none s _).1 hk' x hx
      exact h.biteAnonymous hok (fun x hx => cleared_of_not (hnot' x hx) (hnot x hx) (hout x hx)) b

/-! ### The own tail-out (R72) -/

/-- The looper at the own load-off: its work, if any, needs no CONFIRMED entry any more (R127, R133). -/
theorem looperLoadOff_ok {old : List Entry} (h : LooperOk s.station old s.looper) (table : List Entry) : ∃ l t,
    s.looperLoadOff c = { s with looper := l, trim := t } ∧ LooperOk s.station table l := by
  have hlowered (hpark : s.looper.state ≠ .parked) (hhold : s.looper.state ≠ .holdOff) : LooperOk s.station table
      { s.looper with state := .lowering, liftTimer := none, settleTimer := none, lowerTimer := some c.lowerTime.toNat, integrator := 0 } := by
    obtain ⟨-, -, -, htimer, -, -⟩ := h.tidy
    exact ⟨.inr (.inr ((h.placed.resolve_left hpark).resolve_left hhold)), by simp, by simpa [Looper.Tidy] using mt htimer.1 hhold,
      fun _ _ => Nat.zero_le _⟩
  have hkept (hl : ¬ (s.looper.state = .lifting .rise ∨ s.looper.state = .lifting .settle ∨ s.looper.state = .regulating)) :
      LooperOk s.station table s.looper := ⟨h.placed, fun hl' => absurd hl' hl, h.tidy, h.bounded⟩
  unfold State.looperLoadOff State.lowerLooper
  cases hst : s.looper.state with
  | armed =>
    refine ⟨_, s.trim, rfl, ?_⟩
    have := h.unarmed hst
    exact ⟨this.placed, by simp, this.tidy, this.bounded⟩
  | lifting p =>
    obtain ⟨t, ht⟩ := Laws.rampOut_eq { s with looper := { s.looper with
      state := .lowering, liftTimer := none, settleTimer := none, lowerTimer := some c.lowerTime.toNat, integrator := 0 } }
    exact ⟨_, t, ht, hlowered (by simp [hst]) (by simp [hst])⟩
  | regulating =>
    obtain ⟨t, ht⟩ := Laws.rampOut_eq { s with looper := { s.looper with
      state := .lowering, liftTimer := none, settleTimer := none, lowerTimer := some c.lowerTime.toNat, integrator := 0 } }
    exact ⟨_, t, ht, hlowered (by simp [hst]) (by simp [hst])⟩
  | parked => exact ⟨s.looper, s.trim, rfl, hkept (by simp [hst])⟩
  | lowering => exact ⟨s.looper, s.trim, rfl, hkept (by simp [hst])⟩
  | holdOff => exact ⟨s.looper, s.trim, rfl, hkept (by simp [hst])⟩

/-- The in-stand entry leaves the stand: CLEARED, or retired. -/
theorem TableOk.cleared {d : DetectorState} {before after : List Entry} {e f : Entry} (h : TableOk .running d (before ++ e :: after))
    (hs : e.isInStand = true) (htag : f.tag = e.tag) (hphase : f.phase = .cleared) :
    TableOk .running .unloaded (before ++ f :: after) := by
  obtain ⟨hbefore, hnone, hnone'⟩ := h.around_standing hs
  refine h.rephase htag (by cases hp : e.phase <;> simp [hphase, Phase.rank]) (fun x hx => by simp [hphase, hbefore x hx]) fun _ => ?_
  rw [List.countP_append, List.countP_cons, hnone, hnone', isInStand_eq_false_of_phase (.inr (.inr hphase))]
  rfl

theorem TableOk.retired {d : DetectorState} {before after : List Entry} {e : Entry} (h : TableOk .running d (before ++ e :: after))
    (hs : e.isInStand = true) : TableOk .running .unloaded (before ++ after) := by
  obtain ⟨-, hnone, hnone'⟩ := h.around_standing hs
  have hsub : (before ++ after).Sublist (before ++ e :: after) := (List.Sublist.refl _).append (List.sublist_cons_self ..)
  refine ⟨hsub.length_le.trans h.room, h.tags.sublist hsub, h.order.sublist hsub, fun _ => ?_, fun hst => absurd rfl hst⟩
  rw [List.countP_append, hnone, hnone']
  rfl

/-- A confirmed tail-out takes the in-stand entry from the stand (R72). -/
theorem BlocksSafe.takeTail (h : BlocksSafe (some c) s) (hrun : s.station.state = .running) (hload : s.detector.state.holdsLoad = true)
    (p1 : Word) : BlocksSafe (some c) (State.takeTail c p1 { s with detector := { state := .unloaded, verify := .idle } }) := by
  have hok : TableOk .running s.detector.state s.table := hrun ▸ h.1.tracking
  have hone : s.table.countP Entry.isInStand = 1 := by rw [hok.standing rfl, hload]; rfl
  unfold State.takeTail
  cases hk : State.inStandSlot { s with detector := { state := .unloaded, verify := .idle } } with
  | none =>
    have hzero : s.table.countP Entry.isInStand = 0 :=
      List.countP_eq_zero.2 fun x hx => by simp [(Laws.oldest_eq_none _ _).1 hk x hx]
    omega
  | some k =>
    obtain ⟨before, e, after, htable, rfl, hs, -⟩ := split_of_oldest hk
    have htable' : s.table = before ++ e :: after := htable
    have hat : s.table[before.length]? = some e := by simp [htable']
    simp -zeta only [hat]
    extract_lets early gone queued told lowered
    clear_value early
    have hgone : TableOk .running .unloaded gone.table ∧ gone.station = s.station ∧ gone.looper = s.looper ∧
        gone.detector = { state := .unloaded, verify := .idle } := by
      dsimp only [gone]
      split
      · refine ⟨?_, rfl, rfl, rfl⟩
        show TableOk .running .unloaded (s.table.modify before.length _)
        rw [htable', modify_split]
        exact TableOk.cleared (htable' ▸ hok) hs rfl rfl
      · refine ⟨?_, rfl, rfl, rfl⟩
        show TableOk .running .unloaded (s.table.eraseIdx before.length)
        rw [htable', eraseIdx_split]
        exact TableOk.retired (htable' ▸ hok) hs
    have htold : told.table = gone.table ∧ told.station = gone.station ∧ told.looper = gone.looper ∧ told.detector = gone.detector := by
      have hqueued : queued.table = gone.table ∧ queued.station = gone.station ∧ queued.looper = gone.looper ∧
          queued.detector = gone.detector :=
        ⟨Laws.queueTelegram_table _ gone, Laws.queueTelegram_station _ gone, Laws.queueTelegram_looper _ gone,
          Laws.queueTelegram_detector _ gone⟩
      dsimp only [told]
      cases early <;> exact hqueued
    obtain ⟨hgtable, hgstation, hglooper, hgdetector⟩ := hgone
    obtain ⟨htt, hts, htl, htd⟩ := htold
    have hlooper : LooperOk told.station s.table told.looper := by
      rw [hts, htl, hgstation, hglooper]
      exact h.1.looper
    obtain ⟨l, t, hlowered, hl⟩ := looperLoadOff_ok (c := c) hlooper told.table
    dsimp only [lowered]
    rw [hlowered]
    refine ⟨⟨?_, ?_, ?_, hl, .of_off rfl (toOff_tidy t)⟩, ?_⟩
    · show TableOk told.station.state told.detector.state told.table
      rw [htt, hts, htd, hgstation, hgdetector, hrun]
      exact hgtable
    · show told.station.state ≠ .configuring → told.station.config.isSome
      rw [hts, hgstation]
      exact h.1.configured
    · show DetectorOk told.station.state told.detector
      rw [htd, hgdetector]
      exact ⟨.inl rfl, .inl rfl⟩
    · show told.station.config = some c
      rw [hts, hgstation]
      exact h.2

/-! ### The samples (R89, R97 to R101) -/

/-- A verification result is written into the in-stand entry, and a SUSPECT one ramps the trim out (R71, R154). -/
theorem BlocksSafe.takeVerification (h : BlocksSafe (some c) s) (first second : Bool) :
    BlocksSafe (some c) (s.takeVerification first second) := by
  unfold State.takeVerification
  split
  · rename_i e k _ _
    split
    · extract_lets written raised
      have hwritten : BlocksSafe (some c) written := h.writeKept k fun _ _ => ⟨rfl, rfl, rfl, id⟩
      exact (hwritten.raise ..).rampOut
    · exact h.writeKept k fun _ _ => ⟨rfl, rfl, rfl, id⟩
  · exact h

theorem BlocksSafe.verifySample (h : BlocksSafe (some c) s) (x : Sample) : BlocksSafe (some c) (s.verifySample c x) := by
  unfold State.verifySample
  split
  · exact h
  · exact .ite (h.verifyIdle.takeVerification ..) h

/-- A bite is confirmed from ON_PENDING. -/
theorem BlocksSafe.confirmBite (h : BlocksSafe (some c) s) (hst : s.station.state = .running ∨ s.station.state = .stopped)
    (hload : s.detector.state.holdsLoad = false) (b : BiteReport) : BlocksSafe (some c) (s.confirmBite c b) := by
  unfold State.confirmBite
  extract_lets loaded
  split
  · rename_i hrun
    exact (h.justLoaded hrun hload).takeBite (d := s.detector.state) (hrun ▸ h.1.tracking) (h.not_standing hrun hload) b
  · rename_i hrun
    have hstopped : s.station.state = .stopped := hst.resolve_left hrun
    have hidle : s.detector.verify = .idle := h.1.detector.verify.resolve_right fun hv => hrun hv.1
    exact h.withDetector_stopped hstopped hidle

/-- A tail-out is confirmed from OFF_PENDING. -/
theorem BlocksSafe.confirmTail (h : BlocksSafe (some c) s) (hst : s.station.state = .running ∨ s.station.state = .stopped)
    (hload : s.detector.state.holdsLoad = true) (p1 : Word) : BlocksSafe (some c) (s.confirmTail c p1) := by
  unfold State.confirmTail
  extract_lets unloaded
  split
  · rename_i hrun
    exact h.takeTail hrun hload p1
  · rename_i hrun
    exact h.withDetector_stopped (hst.resolve_left hrun) rfl

theorem BlocksSafe.detect (h : BlocksSafe (some c) s) (hst : s.station.state = .running ∨ s.station.state = .stopped) (x : Sample) :
    BlocksSafe (some c) (s.detect c x) := by
  unfold State.detect
  extract_lets here
  cases hd : s.detector.state with
  | unloaded => exact .ite (h.withDetector (by rw [hd]; rfl) hst) h
  | onPending p0 n =>
    have hload : s.detector.state.holdsLoad = false := by rw [hd]; rfl
    exact .ite (.ite (h.confirmBite hst hload _) (.ite (h.confirmBite hst hload _) (h.withDetector (by rw [hd]; rfl) hst)))
      (h.withDetector (by rw [hd]; rfl) hst)
  | loaded => exact .ite h (h.withDetector (by rw [hd]; rfl) hst)
  | offPending p1 n =>
    have hload : s.detector.state.holdsLoad = true := by rw [hd]; rfl
    exact .ite (h.withDetector (by rw [hd]; rfl) hst) (.ite (h.confirmTail hst hload _) (h.withDetector (by rw [hd]; rfl) hst))

/-- The verification moves no station state. -/
theorem verifySample_station (c : ConfigRecord) (x : Sample) (s : State) : (s.verifySample c x).station = s.station := by
  have htaken (first second : Bool) (s : State) : (s.takeVerification first second).station = s.station := by
    unfold State.takeVerification
    split
    · split
      · extract_lets written raised
        obtain ⟨t, ht⟩ := Laws.rampOut_eq raised
        rw [ht]
        rfl
      · rfl
    · rfl
  unfold State.verifySample
  split
  · rfl
  · split
    · exact htaken ..
    · rfl

theorem BlocksSafe.detectorSample (h : BlocksSafe (some c) s) (x : Sample) : BlocksSafe (some c) (s.detectorSample c x) := by
  unfold State.detectorSample
  split
  · rename_i hst
    exact (h.verifySample x).detect (by rwa [verifySample_station]) x
  · exact h

theorem BlocksSafe.blocksTake {config : Option ConfigRecord} (h : BlocksSafe config s) (x : Sample) :
    BlocksSafe config (s.blocksTake x) := by
  unfold State.blocksTake
  cases hc : s.station.config with
  | none => exact h
  | some c =>
    obtain rfl : config = some c := h.2.symm.trans hc
    exact ((h.detectorSample x).looperSample x).stepTrim

theorem BlocksSafe.takeSample {config : Option ConfigRecord} (h : BlocksSafe config s) (x : Sample) :
    BlocksSafe config (s.takeSample x) := by
  unfold State.takeSample
  extract_lets resumed
  have hresumed : BlocksSafe config resumed := .ite h h
  have hstored : BlocksSafe config (resumed.storeSample x) := hresumed
  exact hstored.blocksTake x

/-- A pulse moves no block of a hand-off but through the marks (R86, R112). -/
theorem BlocksSafe.takePulse {config : Option ConfigRecord} (h : BlocksSafe config s) (ch : Channel) :
    BlocksSafe config (s.takePulse ch) := by
  have hresumed : BlocksSafe config s.encoderResumes := by
    unfold State.encoderResumes
    split <;> exact h
  have hwoken : BlocksSafe config (if s.stand.encoderStall then s.encoderResumes else s) := .ite hresumed h
  unfold State.takePulse
  dsimp only
  split
  · rename_i c hc
    obtain rfl : config = some c := hwoken.2.symm.trans hc
    exact BlocksSafe.evaluateMarks hwoken
  · exact hwoken

end Sys2Proof.Proofs

/-! The hand-off at every step, concluded: receptions, timers, host commands, and the step. -/

namespace Sys2Proof.Proofs

open Sys2Proof.Machine

variable {config : Option ConfigRecord} {c : ConfigRecord} {s : State}

/-! ### The station controller -/

/-- The station controller changed in nothing but its lines, its timers and its fault record. -/
theorem BlocksSafe.withStation (h : BlocksSafe config s) {st : Station} (hstate : st.state = s.station.state)
    (hconfig : st.config = s.station.config) (hposition : st.position = s.station.position) :
    BlocksSafe config { s with station := st } := by
  obtain ⟨⟨htable, hconfigured, hdetector, ⟨hplaced, hconfirmed, htidy, hbounded⟩, hotidy, hoplaced⟩, hc⟩ := h
  rw [← hstate] at htable hconfigured hdetector hplaced hoplaced
  rw [← hconfig] at hconfigured hplaced hbounded hoplaced hc
  rw [← hposition] at hplaced hoplaced
  exact ⟨⟨htable, hconfigured, hdetector, ⟨hplaced, hconfirmed, htidy, hbounded⟩, hotidy, hoplaced⟩, hc⟩

theorem BlocksSafe.mapLine (h : BlocksSafe config s) (src : Fin 10) (f : AcqLine → AcqLine) : BlocksSafe config (s.mapLine src f) :=
  h.withStation rfl rfl rfl

theorem BlocksSafe.queueLinkingAnnounce (h : BlocksSafe config s) : BlocksSafe config (s.queueLinkingAnnounce c) := h.queueTelegram _

theorem BlocksSafe.countAgreement (h : BlocksSafe config s) (src : Fin 10) (l : AcqLine) :
    BlocksSafe config (s.countAgreement c src l) := by
  unfold State.countAgreement
  split
  · exact .ite (h.mapLine ..).queueLinkingAnnounce (h.mapLine ..)
  · exact h
  · exact h

theorem countAgreement_state (c : ConfigRecord) (src : Fin 10) (l : AcqLine) (s : State) :
    (s.countAgreement c src l).station.state = s.station.state := by
  unfold State.countAgreement
  split
  · split
    · rw [State.queueLinkingAnnounce, Laws.queueTelegram_station]
      rfl
    · rfl
  · rfl
  · rfl

/-- The last neighbour ACKED takes a LINKING station, its detector UNLOADED, into RUNNING (R24, R96). -/
theorem BlocksSafe.enterRunning (h : BlocksSafe config s) (hst : s.station.state = .linking) : BlocksSafe config s.enterRunning := by
  have hd : s.detector.state = .unloaded := h.1.detector.unloaded.resolve_right (by simp [hst])
  exact (h.toRunning (by simp [hst]) (by simp [hst]) hd
    (st := { s.station with state := .running, announceTimer := none, linkTimer := none }) rfl rfl).raise ..

theorem BlocksSafe.examineHeard (h : BlocksSafe config s) (hst : s.station.state = .linking) (src : Fin 10) (a : Announce) :
    BlocksSafe config (s.examineHeard src a) := by
  unfold State.examineHeard
  split
  · exact h
  · exact .ite (.ite ((h.mapLine ..).enterRunning hst) (h.mapLine ..)) h

theorem BlocksSafe.takeAnnounce (h : BlocksSafe config s) (src : Fin 10) (a : Announce) : BlocksSafe config (s.takeAnnounce src a) := by
  unfold State.takeAnnounce
  split
  · rename_i c l _ _
    have hwhile : BlocksSafe config (s.announceWhileRunning c src l a) := by
      unfold State.announceWhileRunning
      extract_lets answered
      have hanswered : BlocksSafe config answered := .ite ((h.queueTelegram _).raise ..) h
      exact .ite (hanswered.raise ..) (.ite (hanswered.raise ..) hanswered)
    split
    · rename_i hst
      exact .ite (h.enterFaulted (by simp [hst]) ..) (.ite (h.enterFaulted (by simp [hst]) ..)
        ((h.countAgreement src l).examineHeard ((countAgreement_state ..).trans hst) src a))
    · exact hwhile
    · exact hwhile
    · exact h
    · exact h
  · exact h

/-! ### Receptions -/

theorem countGood_station (s : State) : s.countGood.station = s.station := by
  unfold State.countGood
  extract_lets
  split <;> rfl

theorem BlocksSafe.countGood (h : BlocksSafe config s) : BlocksSafe config s.countGood := by
  unfold State.countGood
  exact .ite h h

theorem BlocksSafe.acquisitionGap (h : BlocksSafe config s) (src : Fin 10) : BlocksSafe config (s.acquisitionGap src) :=
  .ite (h.mapLine ..) h

theorem BlocksSafe.reportGap (h : BlocksSafe config s) (src : Fin 10) (missed : Nat) : BlocksSafe config (s.reportGap src missed) := by
  unfold State.reportGap
  extract_lets _ _ counted raised
  have hraised : BlocksSafe config raised := h
  exact .ite ((hraised.acquisitionGap src).takeGapNotice src) hraised

/-- A station that takes telegrams has left CONFIGURING. -/
theorem not_configuring_of_live (h : s.live = true) : s.station.state ≠ .configuring := by
  rcases (Laws.live_iff s).1 h with h | h | h <;> simp [h]

theorem BlocksSafe.atFrameEnd (h : BlocksSafe config s) {take : State → State} (htake : ∀ u, BlocksSafe config u → BlocksSafe config (take u)) :
    BlocksSafe config (s.atFrameEnd take) := by
  rw [Laws.atFrameEnd_eq]
  exact .ite h (htake _ h)

theorem BlocksSafe.receive (h : BlocksSafe config s) (src : Fin 10) (seq : Byte) (linking : Bool) {take : State → State}
    (htake : ∀ u, BlocksSafe config u → BlocksSafe config (take u)) : BlocksSafe config (s.receive src seq linking take) := by
  have hdispatch {u : State} (hu : BlocksSafe config u) : BlocksSafe config (u.dispatch take) := .ite (htake u hu) hu
  have htaken {u : State} (hu : BlocksSafe config u) : BlocksSafe config (u.takeTelegram src seq linking take) := by
    have hgood : BlocksSafe config u.countGood.countRxGood := hu.countGood
    rw [Laws.takeTelegram_eq]
    split
    · split
      · rename_i hlive
        refine hgood.enterFaulted ?_ ..
        rw [State.countRxGood_station, countGood_station]
        exact not_configuring_of_live hlive
      · exact hgood
    · split
      · exact hu.countGood
      · exact hdispatch hgood
      · exact hdispatch (BlocksSafe.reportGap (s := u.countGood.countRxGood.setExpect src seq) hgood ..)
  exact h.atFrameEnd fun u hu => htaken hu

theorem BlocksSafe.whenRunning (h : BlocksSafe config s) {take : ConfigRecord → State → State}
    (htake : ∀ c, s.station.state = .running → BlocksSafe (some c) s → BlocksSafe (some c) (take c s)) :
    BlocksSafe config (s.whenRunning take) := by
  unfold State.whenRunning
  split
  · rename_i c hc
    obtain rfl : config = some c := h.2.symm.trans hc
    split
    · rename_i hrun
      exact htake c hrun h
    · exact h
  · exact h

theorem BlocksSafe.takeStop (h : BlocksSafe config s) (src : Fin 10) (level cause : Byte) : BlocksSafe config (s.takeStop src level cause) :=
  h.whenRunning fun _ hrun hs => .ite ((hs.enterStopped (by simp [hrun])).raise ..) (hs.raise ..)

/-- A good telegram of any kind is taken (R48 to R52). -/
theorem BlocksSafe.received (h : BlocksSafe config s) (src : Fin 10) (seq : Byte) (t : Telegram) :
    ∀ u, exec (t.received src seq) s = .next u → BlocksSafe config u := by
  have next {v : State} (hv : BlocksSafe config v) (u : State) (hu : (.next v : Host.Outcome State Fault Refusal) = .next u) :
      BlocksSafe config u := Host.Outcome.next.inj hu ▸ hv
  cases t with
  | announce a => exact next (h.receive src seq _ fun _ hu => hu.takeAnnounce src a)
  | pieceEntry r => exact next (h.receive src seq _ fun _ hu => hu.whenRunning fun _ hrun hs => hs.takePieceEntry hrun src r)
  | pieceWithdraw tag => exact next (h.receive src seq _ fun _ hu => hu.whenRunning fun _ _ hs => hs.takePieceWithdraw src tag)
  | headBite tag anonymous speed =>
    exact next (h.receive src seq _ fun _ hu => hu.whenRunning fun _ _ hs => hs.takeHeadBite src tag anonymous speed)
  | tailOut tag anonymous => exact next (h.receive src seq _ fun _ hu => hu.whenRunning fun _ _ hs => hs.takeTailOut src tag anonymous)
  | speedReport tag speed => exact next (h.receive src seq _ fun _ hu => hu.whenRunning fun _ _ hs => hs.takeSpeedReport src tag speed)
  | handoffFault tag code => exact next (h.receive src seq _ fun _ hu => hu.whenRunning fun _ _ hs => hs.takeHandoffFault src tag code)
  | trainStop level cause => exact next (h.receive src seq _ fun _ hu => hu.takeStop src level cause)
  | trainResume => exact next (h.receive src seq _ fun _ hu => hu.takeResume _)

/-! ### The train bus unit's own work touches no block of a hand-off -/

theorem BlocksSafe.lineIdle (h : BlocksSafe config s) (slots : Nat) : BlocksSafe config (s.lineIdle slots) := by
  have hpass (n : Nat) : ∀ u, BlocksSafe config u → BlocksSafe config (u.slotsPass n) := by
    induction n with
    | zero => exact fun u hu => hu
    | succ n ih =>
      intro u hu
      unfold State.slotsPass
      split
      · rename_i m _
        refine ih _ ?_
        unfold State.slotComes
        split <;> exact hu
      · exact hu
      · exact hu
  exact .ite h (hpass _ _ h)

theorem BlocksSafe.attemptSucceeds (h : BlocksSafe config s) : BlocksSafe config s.attemptSucceeds := by
  unfold State.attemptSucceeds
  split <;> exact h

theorem BlocksSafe.failTelegram (h : BlocksSafe config s) (a : Attempt) : BlocksSafe config (s.failTelegram a) := by
  unfold State.failTelegram
  split
  · split
    · exact h
    · exact .ite h h
  · exact h

theorem BlocksSafe.attemptFails (h : BlocksSafe config s) : BlocksSafe config s.attemptFails := by
  unfold State.attemptFails
  split
  · exact h
  · rename_i a _
    extract_lets _ _ failed u
    have hu : BlocksSafe config u := BlocksSafe.failTelegram (s := failed) h a
    exact .ite hu hu

/-! ### The time base -/

theorem encoderFault_kept (e : Entry) : Kept e e.encoderFault := by
  refine ⟨rfl, rfl, rfl, fun hc => ?_⟩
  simp [Entry.encoderFault, hc]

theorem BlocksSafe.latestField (h : BlocksSafe config s) (f : Sample → Half) : BlocksSafe config (s.latestField f).2 := by
  unfold State.latestField
  split <;> exact h

theorem BlocksSafe.looperTimeout (h : BlocksSafe (some c) s) (kind : EventKind) (flag : LatchedFlag) (f : LooperFault) :
    BlocksSafe (some c) (s.looperTimeout c kind flag f) :=
  (((h.latestField Sample.angle).raise ..).setFlag _).looperFault f

theorem BlocksSafe.queueReport (h : BlocksSafe config s) : BlocksSafe config s.queueReport :=
  (h.latestField Sample.speed).queueTelegram _

theorem timer_tick_isSome (t : Timer) : t.tick.isSome = t.isSome := Option.isSome_map

/-- A tick stops and starts no timer and rewrites nothing of the table but ages. -/
theorem BlocksSafe.tick (h : BlocksSafe config s) : BlocksSafe config s.tick := by
  have hstation : BlocksSafe config { s with station := { s.station with
      announceTimer := s.station.announceTimer.tick, linkTimer := s.station.linkTimer.tick } } := h.withStation rfl rfl rfl
  have htable := hstation.withKept (table := s.table.map fun e => if e.aging then { e with age := e.age + 1 } else e)
    (forall₂_kept_map fun e => by
      split
      · exact ⟨rfl, rfl, rfl, id⟩
      · exact Kept.refl e)
  have hlooper := htable.withLooper (l := { s.looper with
      liftTimer := s.looper.liftTimer.tick, settleTimer := s.looper.settleTimer.tick,
      lowerTimer := s.looper.lowerTimer.tick, holdOffTimer := s.looper.holdOffTimer.tick })
    ⟨htable.1.looper.placed, htable.1.looper.confirmed, by simpa only [Looper.Tidy, timer_tick_isSome] using h.1.looper.tidy,
      htable.1.looper.bounded⟩
  exact hlooper.withTrim (t := { s.trim with ageTimer := s.trim.ageTimer.tick, reportTimer := s.trim.reportTimer.tick })
    ⟨by simpa only [Trim.Tidy, timer_tick_isSome] using h.1.trim.tidy, hlooper.1.trim.placed⟩

/-! ### Commands -/

/-- The next state of a command keeps the hand-off, under the record it leaves in force. -/
def NextBlocksSafe (o : Host.Outcome State Fault Refusal) : Prop := ∀ u, o = .next u → u.HandoffSafe

/-- Under whatever record the blocks are safe, they are. -/
theorem BlocksSafe.handoffSafe (h : BlocksSafe config s) : s.HandoffSafe := (blocksSafe_iff s).1 ⟨h.1, rfl⟩

theorem BlocksSafe.next (h : BlocksSafe config s) : NextBlocksSafe (.next s) := fun _ hu => Host.Outcome.next.inj hu ▸ h.handoffSafe

theorem nextBlocksSafe_ite {p : Prop} [Decidable p] {u v : State} (hu : BlocksSafe config u) (hv : BlocksSafe config v) :
    NextBlocksSafe (if p then .next u else .next v) := by
  split
  · exact hu.next
  · exact hv.next

theorem BlocksSafe.respond (h : BlocksSafe config s) (status : Status) (data : List Byte) : BlocksSafe config (s.respond status data) := h

theorem BlocksSafe.refuse (h : BlocksSafe config s) (status : Status) : BlocksSafe config (s.refuse status) := h

theorem BlocksSafe.resetTo (strap : BitVec 4) (a b : Bool) (s : State) : BlocksSafe none (s.resetTo strap a b) :=
  ⟨.of_not_running StationState.noConfusion (fun h => absurd rfl h) (.inl rfl) rfl (.inl rfl)
    (by simp [Looper.reset, Looper.Tidy]) rfl (by simp [Trim.reset, Trim.Tidy]), rfl⟩

theorem BlocksSafe.openTransaction (h : BlocksSafe config s) : ∃ config, BlocksSafe config s.openTransaction := by
  unfold State.openTransaction
  extract_lets u
  have hu : ∃ config, BlocksSafe config u := by
    dsimp only [u]
    split
    · exact ⟨none, .resetTo ..⟩
    · exact ⟨config, h⟩
  obtain ⟨config', hu⟩ := hu
  exact ⟨config', hu⟩

theorem nextBlocksSafe_command (h : BlocksSafe config s) (ok : Bool) {take : State → State}
    (htake : ∀ config u, BlocksSafe config u → BlocksSafe config (take u)) : NextBlocksSafe (.next (s.command ok take)) := by
  obtain ⟨config', hopen⟩ := h.openTransaction
  rw [Laws.command_eq]
  exact BlocksSafe.next (.ite (htake _ _ hopen) hopen)

/-- Outside RUNNING, with the detector UNLOADED, the station takes another record or another state but RUNNING. -/
theorem BlocksSafe.reconfigured (h : BlocksSafe config s) (hst : s.station.state = .configuring) {st : Station}
    (hnot : st.state ≠ .running) (hconfigured : st.state ≠ .configuring → st.config.isSome) :
    BlocksSafe st.config { s with station := st } := by
  have hnotrun : s.station.state ≠ .running := by simp [hst]
  obtain ⟨⟨htable, -, ⟨hunloaded, hverify⟩, hlooper, htrim⟩, -⟩ := h
  refine ⟨?_, rfl⟩
  show HandoffOk st s.table s.detector s.looper s.trim
  rw [htable.outside hnotrun]
  exact .of_not_running hnot hconfigured (.inl (hunloaded.resolve_right (by simp [hst]))) (hverify.resolve_right fun hv => hnotrun hv.1)
    (hlooper.resting hnotrun) hlooper.tidy (htrim.off hnotrun) htrim.tidy

theorem BlocksSafe.configWrite (h : BlocksSafe config s) (args : List Byte) : ∃ config, BlocksSafe config (s.configWrite args) := by
  unfold State.configWrite
  split
  · rename_i hst
    extract_lets c
    split
    · exact ⟨some c, h.reconfigured hst (st := { s.station with config := some c }) (by simp [hst]) fun _ => rfl⟩
    · exact ⟨config, h⟩
  · exact ⟨config, h⟩

theorem BlocksSafe.startCommand (h : BlocksSafe config s) : ∃ config, BlocksSafe config s.startCommand := by
  unfold State.startCommand
  split
  · exact ⟨config, h⟩
  · rename_i hst
    have hst : s.station.state = .configuring := by simpa using hst
    split
    · exact ⟨config, h⟩
    · split
      · exact ⟨config, h⟩
      · rename_i c hc
        split
        · have hlinking := h.reconfigured hst (st := { s.station with
              state := .linking, lines := requiredLines c s.station.position
              announceTimer := some c.announcePeriod.toNat, linkTimer := some c.linkTimeoutMs }) StationState.noConfusion
              (fun _ => by simp [hc])
          refine ⟨_, BlocksSafe.queueLinkingAnnounce (s := { s with
            station := { s.station with
              state := .linking, lines := requiredLines c s.station.position
              announceTimer := some c.announcePeriod.toNat, linkTimer := some c.linkTimeoutMs }
            stand := { s.stand with
              sampleTimer := some c.sampleTimeout.toNat, stallTimer := some c.encoderStall.toNat, lastSeq := none
              sinceSample := 0 } }) hlinking⟩
        · exact ⟨config, h⟩

/-- CONFIG_WRITE and START may leave another record in force. -/
theorem nextBlocksSafe_reconfiguring (h : BlocksSafe config s) (ok : Bool) {take : State → State}
    (htake : ∀ config u, BlocksSafe config u → ∃ config, BlocksSafe config (take u)) : NextBlocksSafe (.next (s.command ok take)) := by
  obtain ⟨config', hopen⟩ := h.openTransaction
  obtain ⟨config'', htaken⟩ := htake _ _ hopen
  rw [Laws.command_eq]
  split
  · exact htaken.next
  · exact (hopen.refuse _).next

theorem BlocksSafe.refuseRecord (h : BlocksSafe config s) (tag : Half) (r : RefuseReason) : BlocksSafe config (s.refuseRecord tag r) := by
  cases r <;> exact h

theorem BlocksSafe.insertPiece (h : BlocksSafe config s) (hrun : s.station.state = .running) (origin : Origin) (queued : Option Telegram)
    (r : PieceRecord) : BlocksSafe config (s.insertPiece c origin queued r) := by
  unfold State.insertPiece
  split
  · exact h.refuseRecord ..
  · extract_lets e
    split
    · exact h.refuseRecord ..
    · rename_i u hu
      have hadded : BlocksSafe config (u.raiseAdded e) := (h.createEntry hrun rfl hu).raise ..
      cases queued with
      | none => exact hadded
      | some t => exact hadded.queueTelegram t

theorem BlocksSafe.pieceAnnounce (h : BlocksSafe config s) (r : PieceRecord) : BlocksSafe config (s.pieceAnnounce r) := by
  unfold State.pieceAnnounce
  split
  · exact h
  · split
    · split
      · rename_i hrun
        exact h.insertPiece hrun ..
      · exact h
    · exact h

theorem BlocksSafe.trackInsert (h : BlocksSafe config s) (r : PieceRecord) : BlocksSafe config (s.trackInsert r) := by
  unfold State.trackInsert
  split
  · split
    · rename_i hrun
      exact h.insertPiece hrun ..
    · exact h
  · exact h

theorem BlocksSafe.pieceWithdraw (h : BlocksSafe config s) (tag : Half) : BlocksSafe config (s.pieceWithdraw tag) := by
  unfold State.pieceWithdraw
  split
  · exact h
  · split
    · exact h
    · split
      · exact h
      · split
        · exact h
        · rename_i e he
          split
          · rename_i hphase
            exact (h.withdrawEntry he (isInStand_eq_false_of_phase (.inl hphase)) _).queueTelegram _
          · exact h

theorem BlocksSafe.trackRemove (h : BlocksSafe config s) (tag : Half) : BlocksSafe config (s.trackRemove tag) := by
  unfold State.trackRemove
  split
  · exact h
  · split
    · exact h
    · split
      · exact h
      · rename_i e he
        split
        · exact h
        · rename_i hout
          exact h.withdrawEntry he (by simpa using hout) .host

theorem BlocksSafe.returnEntry (h : BlocksSafe config s) (k : Nat) : BlocksSafe config (s.returnEntry k) := by
  unfold State.returnEntry
  split <;> exact h

theorem BlocksSafe.trackFind (h : BlocksSafe config s) (tag : Half) : BlocksSafe config (s.trackFind tag) := by
  unfold State.trackFind
  split
  · exact h.returnEntry _
  · exact h

theorem BlocksSafe.readEvent (h : BlocksSafe config s) : BlocksSafe config s.readEvent := by
  unfold State.readEvent
  split <;> exact h

theorem BlocksSafe.releaseLooper (h : BlocksSafe config s) : BlocksSafe config s.releaseLooper := by
  unfold State.releaseLooper
  split
  · exact h
  · split
    · exact h
    · split
      · rename_i hst
        exact h.leaveHoldOff hst
      · exact h

theorem BlocksSafe.stopCommand (h : BlocksSafe config s) (level : Byte) : BlocksSafe config (s.stopCommand level) :=
  .ite h (.ite (h.originateStop ..) h)

theorem BlocksSafe.resumeCommand (h : BlocksSafe config s) : BlocksSafe config s.resumeCommand :=
  .ite ((h.queueTelegram _).takeResume _) h

theorem nextBlocksSafe_pieceAnnounce (h : BlocksSafe config s) (args : List Byte) : NextBlocksSafe (execPieceAnnounce args s) := by
  unfold execPieceAnnounce
  split
  · exact nextBlocksSafe_command h _ fun _ _ hu => hu.pieceAnnounce _
  · exact nextBlocksSafe_command h _ fun _ _ hu => hu

theorem nextBlocksSafe_trackInsert (h : BlocksSafe config s) (args : List Byte) : NextBlocksSafe (execTrackInsert args s) := by
  unfold execTrackInsert
  split
  · exact nextBlocksSafe_command h _ fun _ _ hu => hu.trackInsert _
  · exact nextBlocksSafe_command h _ fun _ _ hu => hu

theorem nextBlocksSafe_eventRecordClockedOut (h : BlocksSafe config s) : NextBlocksSafe (execEventRecordClockedOut s) := by
  unfold execEventRecordClockedOut
  split <;> exact BlocksSafe.next h

theorem nextBlocksSafe_announceTimerExpiry (h : BlocksSafe config s) : NextBlocksSafe (execAnnounceTimerExpiry s) := by
  unfold execAnnounceTimerExpiry
  split
  · exact nextBlocksSafe_ite (BlocksSafe.queueLinkingAnnounce (h.withStation rfl rfl rfl)) h
  · exact h.next

theorem nextBlocksSafe_linkTimeout (h : BlocksSafe config s) : NextBlocksSafe (execLinkTimeout s) := by
  unfold execLinkTimeout
  split
  · rename_i c _
    exact nextBlocksSafe_ite (BlocksSafe.raise (h.withStation (st := { s.station with linkTimer := some c.linkTimeoutMs }) rfl rfl rfl) ..) h
  · exact h.next

theorem nextBlocksSafe_sampleRecord (h : BlocksSafe config s) (bytes : List Byte) : NextBlocksSafe (execSampleRecord bytes s) := by
  unfold execSampleRecord
  split
  · split
    · exact BlocksSafe.next h
    · exact (h.takeSample _).next
  · exact h.next

/-- An expiry that needs the record in force. -/
theorem BlocksSafe.withRecord (h : BlocksSafe config s) {take : ConfigRecord → Host.Outcome State Fault Refusal}
    (htake : ∀ c, BlocksSafe (some c) s → NextBlocksSafe (take c)) :
    NextBlocksSafe (match s.station.config with | some c => take c | none => .next s) := by
  cases hc : s.station.config with
  | none => exact h.next
  | some c =>
    obtain rfl : config = some c := h.2.symm.trans hc
    exact htake c h

theorem nextBlocksSafe_sampleLoss (h : BlocksSafe config s) : NextBlocksSafe (execSampleLoss s) :=
  h.withRecord fun _ hs => nextBlocksSafe_ite (BlocksSafe.looperSampleLoss (s := State.setFlag .sampleLoss
    (State.raise .sampleLoss 0 ((s.stand.lastSeq.getD 0).setWidth 16) { s with stand := { s.stand with sampleLoss := true } })) hs) hs

theorem nextBlocksSafe_encoderFault (h : BlocksSafe config s) : NextBlocksSafe (execEncoderFault s) := by
  unfold execEncoderFault
  split
  · have hstalled : BlocksSafe config { s with
        stand := { s.stand with encoderStall := true }, table := s.table.map Entry.encoderFault
        detector := { s.detector with verify := .idle } } := h.verifyIdle.withKept (forall₂_kept_map encoderFault_kept)
    exact nextBlocksSafe_ite ((hstalled.raise ..).setFlag _) h
  · exact h.next

theorem nextBlocksSafe_pieceAged (h : BlocksSafe config s) : NextBlocksSafe (execPieceAged s) := by
  refine h.withRecord fun c hs => ?_
  cases hk : s.oldest (Entry.aged c.ageLimitMs) with
  | none => exact h.next
  | some k =>
    obtain ⟨e, he, haged, -⟩ := (Laws.oldest_eq_some s _ k).1 hk
    have hout : e.isInStand = false := by
      cases hp : e.phase <;> simp_all [Entry.isInStand, Entry.aged, Entry.aging]
    simp only [he]
    exact ((h.removeEntry he hout).raise ..).next

theorem nextBlocksSafe_liftTimeout (h : BlocksSafe config s) : NextBlocksSafe (execLiftTimeout s) :=
  h.withRecord fun _ hs => nextBlocksSafe_ite (hs.looperTimeout ..) hs

theorem nextBlocksSafe_lowerTimeout (h : BlocksSafe config s) : NextBlocksSafe (execLowerTimeout s) :=
  h.withRecord fun _ hs => nextBlocksSafe_ite (hs.looperTimeout ..) hs

theorem nextBlocksSafe_settleTimerExpiry (h : BlocksSafe config s) : NextBlocksSafe (execSettleTimerExpiry s) := by
  unfold execSettleTimerExpiry
  split
  · rename_i hst
    exact (h.regulate (.inr hst.1)).next
  · exact h.next

theorem nextBlocksSafe_holdOffExpiry (h : BlocksSafe config s) : NextBlocksSafe (execHoldOffExpiry s) := by
  unfold execHoldOffExpiry
  split
  · rename_i hst
    exact (h.leaveHoldOff hst.1).next
  · exact h.next

theorem nextBlocksSafe_reportAgeExpiry (h : BlocksSafe config s) : NextBlocksSafe (execReportAgeExpiry s) := by
  unfold execReportAgeExpiry
  split
  · rename_i hst
    exact (h.holdTrim hst.1 ..).next
  · exact h.next

theorem nextBlocksSafe_reportPeriodExpiry (h : BlocksSafe config s) : NextBlocksSafe (execReportPeriodExpiry s) := by
  refine h.withRecord fun c hs => ?_
  split
  · have htimed : BlocksSafe (some c) { s with trim := { s.trim with reportTimer := some c.reportPeriod.toNat } } :=
      hs.withTrim ⟨hs.1.trim.tidy, hs.1.trim.placed⟩
    exact BlocksSafe.next (.ite htimed.queueReport htimed)
  · exact h.next

/-- Whatever the command, its next state keeps the hand-off. -/
theorem nextBlocksSafe_exec (h : BlocksSafe config s) (i : Instr) : NextBlocksSafe (exec i s) := by
  have hreceived (src : Fin 10) (seq : Byte) (t : Telegram) : NextBlocksSafe (exec (t.received src seq) s) :=
    fun u hu => (h.received src seq t u hu).handoffSafe
  cases i with
  | reset strap a b => exact (BlocksSafe.resetTo strap a b s).next
  | configWrite args => exact nextBlocksSafe_reconfiguring h _ fun _ _ hu => hu.configWrite args
  | start args => exact nextBlocksSafe_reconfiguring h _ fun _ _ hu => hu.startCommand
  | statusRead args => exact nextBlocksSafe_command h _ fun _ _ hu => hu.respond ..
  | eventRead args => exact nextBlocksSafe_command h _ fun _ _ hu => hu.readEvent
  | eventRecordClockedOut => exact nextBlocksSafe_eventRecordClockedOut h
  | faultClear args => exact nextBlocksSafe_command h _ fun _ _ hu => .ite hu hu
  | countersRead args => exact nextBlocksSafe_command h _ fun _ _ hu => hu
  | pieceAnnounce args => exact nextBlocksSafe_pieceAnnounce h args
  | pieceWithdraw args => exact nextBlocksSafe_command h _ fun _ _ hu => hu.pieceWithdraw _
  | trackRead args => exact nextBlocksSafe_command h _ fun _ _ hu => .ite hu (hu.returnEntry _)
  | trackFind args => exact nextBlocksSafe_command h _ fun _ _ hu => hu.trackFind _
  | trackInsert args => exact nextBlocksSafe_trackInsert h args
  | trackRemove args => exact nextBlocksSafe_command h _ fun _ _ hu => hu.trackRemove _
  | looperRelease args => exact nextBlocksSafe_command h _ fun _ _ hu => hu.releaseLooper
  | trainStop args => exact nextBlocksSafe_command h _ fun _ _ hu => hu.stopCommand _
  | trainResume args => exact nextBlocksSafe_command h _ fun _ _ hu => hu.resumeCommand
  | busRelink args => exact nextBlocksSafe_command h _ fun _ _ hu => .ite hu hu
  | softReset args => exact nextBlocksSafe_command h _ fun _ _ hu => hu
  | unknownCommand code args => exact nextBlocksSafe_command h _ fun _ _ hu => hu.refuse _
  | spiTransactionAborted received => exact nextBlocksSafe_command h true fun _ _ hu => hu
  | announceReceived src seq a => exact hreceived src seq (.announce a)
  | pieceEntryReceived src seq r => exact hreceived src seq (.pieceEntry r)
  | pieceWithdrawReceived src seq tag => exact hreceived src seq (.pieceWithdraw tag)
  | headBiteReceived src seq tag anonymous speed => exact hreceived src seq (.headBite tag anonymous speed)
  | tailOutReceived src seq tag anonymous => exact hreceived src seq (.tailOut tag anonymous)
  | speedReportReceived src seq tag speed => exact hreceived src seq (.speedReport tag speed)
  | handoffFaultReceived src seq tag code => exact hreceived src seq (.handoffFault tag code)
  | trainStopReceived src seq level cause => exact hreceived src seq (.trainStop level cause)
  | trainResumeReceived src seq => exact hreceived src seq .trainResume
  | rxFailedReception why => exact BlocksSafe.next (h.atFrameEnd fun _ hu => hu)
  | rxMalformed why => exact BlocksSafe.next (h.atFrameEnd fun _ hu => hu)
  | attemptBegin slots => exact (h.lineIdle slots).next
  | attemptSuccess => exact h.attemptSucceeds.next
  | attemptFail => exact h.attemptFails.next
  | announceTimerExpiry => exact nextBlocksSafe_announceTimerExpiry h
  | linkTimeout => exact nextBlocksSafe_linkTimeout h
  | encoderPulse channel => exact (h.takePulse channel).next
  | sampleRecord bytes => exact nextBlocksSafe_sampleRecord h bytes
  | sampleLoss => exact nextBlocksSafe_sampleLoss h
  | encoderFault => exact nextBlocksSafe_encoderFault h
  | pieceAged => exact nextBlocksSafe_pieceAged h
  | liftTimeout => exact nextBlocksSafe_liftTimeout h
  | settleTimerExpiry => exact nextBlocksSafe_settleTimerExpiry h
  | lowerTimeout => exact nextBlocksSafe_lowerTimeout h
  | holdOffExpiry => exact nextBlocksSafe_holdOffExpiry h
  | reportAgeExpiry => exact nextBlocksSafe_reportAgeExpiry h
  | reportPeriodExpiry => exact nextBlocksSafe_reportPeriodExpiry h
  | bothChannelsChange => exact BlocksSafe.next h

/-- Settles O60: a step runs a command or is a tick, and both keep the blocks of a hand-off in agreement. -/
theorem everyStepKeepsTheHandOffSafe : Obligations.EveryStepKeepsTheHandOffSafe := by
  intro s t hstep hsafe
  have h : BlocksSafe s.station.config s := (blocksSafe_iff s).2 hsafe
  unfold step at hstep
  split at hstep
  · rename_i i rest hpending
    exact nextBlocksSafe_exec (s := { s with pending := rest }) h i t hstep
  · exact h.tick.next t hstep

end Sys2Proof.Proofs

/-! Reset, the queue of commands and the time base (O1 to O4, O58); the configuration record and START (O5, O7, O9). -/

namespace Sys2Proof.Proofs

open Sys2Proof.Machine

/-! ### Reset -/

/-- Settles O1: every block is the one of `State.atReset`, field by field. -/
theorem resetBringsEveryBlockToItsStatedValues : Obligations.ResetBringsEveryBlockToItsStatedValues := by
  refine ⟨fun strap a b s => ⟨s.resetTo strap a b, rfl, rfl, ⟨rfl, rfl, rfl, rfl, rfl, rfl, rfl, rfl, rfl, rfl, fun src => ?_, rfl⟩, rfl,
    ⟨rfl, rfl, rfl, rfl, rfl, rfl, rfl, rfl, rfl, rfl, rfl⟩, rfl, rfl, rfl, ⟨rfl, rfl, rfl, rfl, ?_, rfl, rfl, rfl, ?_⟩, rfl, rfl⟩, rfl⟩
  · exact Vector.getElem_replicate _
  · show (0 : Byte).setWidth 16 ||| 0 ||| 0 ||| 0 = (0 : Half)
    rfl
  · show ((s.resetTo strap a b).faultFlags &&& 0 != 0) = false
    rw [show (0 : Half) = 0#16 from rfl, BitVec.and_zero]
    rfl

/-- Settles O2: the queue is not empty, and `step` takes its first command. -/
theorem stepRunsTheCommandInFront : Obligations.StepRunsTheCommandInFront := by
  intro i rest s hpending
  simp only [step, hpending]

/-- Settles O58: State.reset is a reset of itself, and a reset state is safe whatever came before. -/
theorem resetStateIsSafe : Obligations.ResetStateIsSafe := by
  have hreset (strap : BitVec 4) (a b : Bool) (s : State) :
      (s.resetTo strap a b).BusSafe ∧ (s.resetTo strap a b).EventsSafe ∧ (s.resetTo strap a b).HandoffSafe := by
    obtain ⟨hbus, hevents⟩ := (queuesSafe_iff _).1 (QueuesSafe.resetTo (s := s) strap a b)
    exact ⟨hbus, hevents, (BlocksSafe.resetTo strap a b s).handoffSafe⟩
  obtain ⟨hbus, hevents, hhandoff⟩ := hreset 0 false false State.reset
  exact ⟨hbus, hevents, hhandoff, hreset⟩

/-! ### The time base -/

theorem aging_iff (e : Entry) : e.aging = true ↔ (e.phase = .announced ∧ e.origin = .bus) ∨ e.phase = .cleared := by
  simp [Entry.aging]

theorem line_tick_eq (l : LineState) : l.tick = if l = .lost then .busy else l := by
  cases l <;> rfl

/-- The tick as the statement counts it. -/
theorem countTick_eq_ticked (s : State) : s.countTick = s.ticked := by
  have htable : (s.table.map fun e => if e.aging then { e with age := e.age + 1 } else e) = s.table.map fun e => { e with
      age := if (e.phase = .announced ∧ e.origin = .bus) ∨ e.phase = .cleared then e.age + 1 else e.age } := by
    refine List.map_congr_left fun e _ => ?_
    simp only [aging_iff]
    split <;> rfl
  unfold State.countTick State.ticked
  rw [htable, line_tick_eq]
  rfl

/-- One PIECE_AGED for each aged entry. -/
theorem agedCount_replicate (s : State) : List.replicate s.agedCount Instr.pieceAged = match s.station.config with
    | some c => (s.table.filter fun e => ((e.phase = .announced ∧ e.origin = .bus) ∨ e.phase = .cleared) ∧
        1000 * c.ageLimit.toNat ≤ e.age).map fun _ => .pieceAged
    | none => [] := by
  unfold State.agedCount
  cases s.station.config with
  | none => rfl
  | some c =>
    have haged : (Entry.aged c.ageLimitMs) = fun e : Entry => decide (((e.phase = .announced ∧ e.origin = .bus) ∨ e.phase = .cleared) ∧
        1000 * c.ageLimit.toNat ≤ e.age) := by
      funext e
      rw [Bool.eq_iff_iff, Entry.aged, Bool.and_eq_true, aging_iff, decide_eq_true_eq, decide_eq_true_eq]
      rfl
    simp only [haged, List.countP_eq_length_filter, List.map_const']

theorem stallFound_iff (s : State) : s.stallFound = true ↔
    (s.station.state = .linking ∨ s.station.state = .running ∨ s.station.state = .stopped) ∧ s.stand.stallTimer = some 0 ∧
      (s.stand.latest.any fun x => 500 ≤ x.speed.toNat) = true ∧ s.stand.sampleLoss = false ∧ s.stand.encoderStall = false := by
  simp only [State.stallFound, stallSpeed, Bool.and_eq_true, Bool.not_eq_true', Laws.live_iff, timer_expired_iff, and_assoc] <;> rfl

/-- What is due, as the statement lists it. -/
theorem due_eq_expiries (s : State) : s.due = s.expiries := by
  unfold State.due State.expiries
  rw [agedCount_replicate]
  simp only [timer_expired_iff, stallFound_iff, Bool.and_eq_true, Bool.not_eq_true', Laws.live_iff, and_assoc] <;> rfl

/-- Settles O3: with nothing waiting a step is the tick, and what joins the empty queue is what is due. -/
theorem idleStepIsOneTickOfTheTimeBase : Obligations.IdleStepIsOneTickOfTheTimeBase := by
  intro s hpending
  simp only [step, hpending, State.tick, countTick_eq_ticked, due_eq_expiries]
  rw [show s.ticked.pending = [] from hpending, List.nil_append]

/-! ### Every command has an effect -/

/-- A command's outcome is a next state. -/
def Answers (o : Host.Outcome State Fault Refusal) : Prop := ∃ t, o = .next t

theorem answers_next (t : State) : Answers (.next t) := ⟨t, rfl⟩

theorem answers_ite {p : Prop} [Decidable p] {u v : Host.Outcome State Fault Refusal} (hu : Answers u) (hv : Answers v) :
    Answers (if p then u else v) := by
  split
  · exact hu
  · exact hv

/-- An expiry that needs the record in force. -/
theorem answers_withRecord {s : State} {take : ConfigRecord → Host.Outcome State Fault Refusal} (htake : ∀ c, Answers (take c)) :
    Answers (match s.station.config with | some c => take c | none => .next s) := by
  split
  · exact htake _
  · exact answers_next s

theorem answers_pieceAged (s : State) : Answers (execPieceAged s) := by
  refine answers_withRecord fun c => ?_
  split
  · split <;> exact answers_next _
  · exact answers_next s

theorem answers_exec (i : Instr) (s : State) : Answers (exec i s) := by
  cases i with
  | eventRecordClockedOut =>
    show Answers (execEventRecordClockedOut s)
    unfold execEventRecordClockedOut
    split <;> exact answers_next _
  | pieceAnnounce args =>
    show Answers (execPieceAnnounce args s)
    unfold execPieceAnnounce
    split <;> exact answers_next _
  | trackInsert args =>
    show Answers (execTrackInsert args s)
    unfold execTrackInsert
    split <;> exact answers_next _
  | announceTimerExpiry => exact answers_withRecord fun c => answers_ite (answers_next _) (answers_next s)
  | linkTimeout => exact answers_withRecord fun c => answers_ite (answers_next _) (answers_next s)
  | sampleRecord bytes =>
    refine answers_ite ?_ (answers_next s)
    split <;> exact answers_next _
  | sampleLoss => exact answers_withRecord fun c => answers_ite (answers_next _) (answers_next s)
  | encoderFault =>
    show Answers (execEncoderFault s)
    unfold execEncoderFault
    split
    · exact answers_ite (answers_next _) (answers_next s)
    · exact answers_next s
  | pieceAged => exact answers_pieceAged s
  | liftTimeout => exact answers_withRecord fun c => answers_ite (answers_next _) (answers_next s)
  | settleTimerExpiry => exact answers_ite (answers_next _) (answers_next s)
  | lowerTimeout => exact answers_withRecord fun c => answers_ite (answers_next _) (answers_next s)
  | holdOffExpiry => exact answers_ite (answers_next _) (answers_next s)
  | reportAgeExpiry => exact answers_ite (answers_next _) (answers_next s)
  | reportPeriodExpiry => exact answers_withRecord fun c => answers_ite (answers_next _) (answers_next s)
  | _ => exact ⟨_, rfl⟩

/-- Settles O4: every arm of `exec` ends in a next state. -/
theorem everyCommandAnswersANextState : Obligations.EveryCommandAnswersANextState := answers_exec

/-! ### The ranges of Table 2.3 -/

theorem byte_le_one_iff (b : Byte) : b.toNat ≤ 1 ↔ b = 0 ∨ b = 1 := by
  revert b
  decide

/-- Each test of a record is that of its field in Table 2.3. -/
theorem inRange_iff (c : ConfigRecord) {i : Nat} (hi : i < 36) (b : Bool) (hb : c.inRange[i]? = some b) :
    b = true ↔ c.FieldInRange (i + 1) := by
  interval_cases i <;> obtain rfl := Option.some.inj hb <;>
    simp only [ConfigRecord.FieldInRange, within_iff, byte_le_one_iff, Nat.zero_le, true_and, faultFlagCount] <;> rfl

theorem inRange_length (c : ConfigRecord) : c.inRange.length = 36 := rfl

theorem inRange_getElem_iff (c : ConfigRecord) {i : Nat} (hi : i < c.inRange.length) :
    c.inRange[i] = true ↔ c.FieldInRange (i + 1) :=
  inRange_iff c hi _ (List.getElem?_eq_getElem hi)

theorem firstBad_eq_none_iff (c : ConfigRecord) : c.firstBad = none ↔ ∀ i, 1 ≤ i → i ≤ 36 → c.FieldInRange i := by
  unfold ConfigRecord.firstBad
  rw [Option.map_eq_none_iff, List.findIdx?_eq_none_iff, List.forall_mem_iff_getElem]
  constructor
  · intro h i hi hi'
    obtain ⟨j, rfl⟩ : ∃ j, i = j + 1 := ⟨i - 1, by omega⟩
    exact (inRange_getElem_iff c hi').1 (by simpa using h j hi')
  · intro h i hi
    simpa using (inRange_getElem_iff c hi).2 (h (i + 1) (by omega) hi)

theorem firstBad_eq_some_iff (c : ConfigRecord) (i : Nat) : c.firstBad = some i ↔
    1 ≤ i ∧ i ≤ 36 ∧ ¬ c.FieldInRange i ∧ ∀ j, 1 ≤ j → j < i → c.FieldInRange j := by
  unfold ConfigRecord.firstBad
  rw [Option.map_eq_some_iff]
  simp only [List.findIdx?_eq_some_iff_getElem, Bool.not_eq_true', Bool.not_eq_false]
  constructor
  · rintro ⟨k, ⟨hk, hbad, hfirst⟩, rfl⟩
    refine ⟨by omega, hk, fun hok => by simp [(inRange_getElem_iff c hk).2 hok] at hbad, fun j hj hjk => ?_⟩
    obtain ⟨m, rfl⟩ : ∃ m, j = m + 1 := ⟨j - 1, by omega⟩
    have hm : m < c.inRange.length := by omega
    exact (inRange_getElem_iff c hm).1 (hfirst m (by omega))
  · rintro ⟨h1, h36, hbad, hfirst⟩
    obtain ⟨k, rfl⟩ : ∃ k, i = k + 1 := ⟨i - 1, by omega⟩
    have hk : k < c.inRange.length := h36
    refine ⟨k, ⟨hk, ?_, fun j hj => ?_⟩, rfl⟩
    · have := mt (inRange_getElem_iff c hk).1 hbad
      simpa using this
    · exact (inRange_getElem_iff c (hj.trans hk)).2 (hfirst (j + 1) (by omega) (by omega))

/-- Settles O5: each of the 36 tests is that of its field, and the first that fails is found by its place. -/
theorem configurationRangesAreThoseOfTheTable : Obligations.ConfigurationRangesAreThoseOfTheTable :=
  ⟨firstBad_eq_none_iff, firstBad_eq_some_iff⟩

/-! ### The 59 bytes of a record -/

section Bytes

variable {bs : List Byte} {i : Nat}

theorem argByte_eq_getElem (h : i < bs.length) : argByte bs i = bs[i] := by
  simp [argByte, h]

theorem argByte_cons_drop (h : i < bs.length) : argByte bs i :: bs.drop (i + 1) = bs.drop i := by
  rw [List.drop_eq_getElem_cons h, argByte_eq_getElem h]

theorem bytes16_argHalf_drop (h : i + 1 < bs.length) : bytes16 (argHalf bs i) ++ bs.drop (i + 2) = bs.drop i := by
  rw [argHalf, Laws.bytes16_half, List.cons_append, List.cons_append, List.nil_append, argByte_cons_drop h,
    argByte_cons_drop (by omega)]

theorem bytes32_word_drop (h : i + 3 < bs.length) :
    bytes32 (word (argByte bs i) (argByte bs (i + 1)) (argByte bs (i + 2)) (argByte bs (i + 3))) ++ bs.drop (i + 4) = bs.drop i := by
  rw [Laws.bytes32_word]
  simp only [List.cons_append, List.nil_append]
  rw [argByte_cons_drop h, argByte_cons_drop (by omega), argByte_cons_drop (by omega), argByte_cons_drop (by omega)]

/-- The record that 59 bytes carry has these bytes: from the last field back, each one's bytes stand before those after it. -/
theorem configRecord_bytes_ofBytes (h : bs.length = 59) : (ConfigRecord.ofBytes bs).bytes = bs := by
  have hend : bs.drop 59 = [] := List.drop_of_length_le h.le
  have hupp := bytes32_word_drop (bs := bs) (i := 12) (by omega)
  rw [← List.append_nil (ConfigRecord.ofBytes bs).bytes, ← hend]
  unfold ConfigRecord.bytes ConfigRecord.ofBytes
  simp (disch := omega) only [List.append_assoc, List.cons_append, List.nil_append, argByte_cons_drop, bytes16_argHalf_drop, hupp,
    List.drop_zero]

end Bytes

/-- Settles O7: the record is read back from its bytes, and the bytes from their record. -/
theorem configurationRecordBytesRoundTrip : Obligations.ConfigurationRecordBytesRoundTrip :=
  ⟨fun c => ⟨configRecord_bytes_length c, configRecord_ofBytes_bytes c⟩, fun _ h => configRecord_bytes_ofBytes h⟩

/-! ### START (R19) -/

/-- START makes every line in SEEK. -/
theorem seek_of_mem_requiredLines {c : ConfigRecord} {p : BitVec 4} {l : AcqLine} (h : l ∈ requiredLines c p) : l.state = .seek := by
  simp only [requiredLines, List.mem_append, Option.mem_toList, Option.map_eq_some_iff] at h
  obtain ⟨q, -, rfl⟩ | ⟨q, -, rfl⟩ := h <;> rfl

theorem requiredLines_stand {c : ConfigRecord} {k : BitVec 4} (h1 : 1 ≤ k.toNat) (h8 : k.toNat ≤ 8) :
    requiredLines c k = neighbourLine .upstream (Fin.ofNat 10 (k.toNat - 1)) ::
      (if k.toNat < c.trainSize.toNat then [neighbourLine .downstream (Fin.ofNat 10 (k.toNat + 1))]
       else if c.exitPresent = 1 then [neighbourLine .downstream 9] else []) := by
  have hrole : roleOf k = .stand := (Laws.roleOf_stand k).2 ⟨h1, h8⟩
  have hup : upstreamOf c k = some (Fin.ofNat 10 (k.toNat - 1)) := by rw [upstreamOf, hrole]
  have hdown : downstreamOf c k = if k.toNat < c.n then some (Fin.ofNat 10 (k.toNat + 1)) else if c.hasExit then some 9 else none := by
    rw [downstreamOf, hrole]
  have hexit : c.hasExit = true ↔ c.exitPresent = 1 := beq_iff_eq
  rw [requiredLines, hup, hdown]
  by_cases hn : k.toNat < c.n
  · rw [if_pos hn, if_pos (show k.toNat < c.trainSize.toNat from hn)]
    rfl
  · rw [if_neg hn, if_neg (show ¬ k.toNat < c.trainSize.toNat from hn)]
    simp only [hexit]
    split <;> rfl

/-- The four tests met, START is accepted. -/
theorem startCommand_of_belongs {s : State} {c : ConfigRecord} (h : s.station.state = .configuring) (hconfig : s.station.config = some c)
    (hin : s.station.position.toNat ≤ 8 ∧ s.station.position.toNat ≤ c.trainSize.toNat ∨
      s.station.position.toNat = 9 ∧ c.exitPresent = 1) : s.startCommand = s.accept c := by
  rw [startCommand_of_config h (role_ne_invalid (by omega)) hconfig, if_pos ((belongs_iff _ _).2 hin)]

/-- Settles O9: the tests met the station is accepted into LINKING, where no line is past SEEK; the lines role by role. -/
theorem startEntersLinkingWithTheRequiredNeighbours : Obligations.StartEntersLinkingWithTheRequiredNeighbours := by
  refine ⟨fun c s hreset hstate hconfig hin => ?_, fun c k _ => ⟨rfl, requiredLines_stand, rfl⟩⟩
  have hheard : (requiredLines c s.station.position).filter (fun l => l.state ≠ .seek) = [] :=
    List.filter_eq_nil_iff.2 fun l hl => by simp [seek_of_mem_requiredLines hl]
  rw [execStart_nil hreset, startCommand_of_belongs (s := s.opened) hstate hconfig hin]
  unfold State.accept State.queueLinkingAnnounce Station.positions
  simp only [opened_station, hheard]
  rfl

end Sys2Proof.Proofs

/-! The reception of a good telegram (03 R44, R48 to R52): what it counts, the tests it is put to, and the block it is dispatched to. -/

namespace Sys2Proof.Proofs

open Sys2Proof.Machine

variable {src : Fin 10} {seq : Byte} {s : State}

/-! ### Counting (R44, R52) -/

/-- The end of the frame and the good count, as the statements write them. -/
theorem countGood_frameEnds (s : State) : State.countGood { s with bus := s.bus.frameEnds } = s.goodCounted := by
  have hlimit : min goodLimit (s.bus.good + 1) = goodLimit ↔ 63 ≤ s.bus.good := by
    unfold goodLimit
    omega
  have hlive : (s.bus.state = .silent ∧ min goodLimit (s.bus.good + 1) = goodLimit) ↔ (s.bus.state = .silent ∧ 63 ≤ s.bus.good) := by
    rw [hlimit]
  unfold State.countGood State.goodCounted
  by_cases hends : s.bus.state = .silent ∧ 63 ≤ s.bus.good
  · simp only [hends, and_self, if_true]
    exact if_pos (hlive.2 hends)
  · simp only [hends, if_false]
    exact if_neg (mt hlive.1 hends)

theorem countRxGood_setExpect (src : Fin 10) (seq : Byte) (s : State) :
    s.goodCounted.countRxGood.setExpect src seq = s.accepted src seq := rfl

/-! ### Gaps (R50) -/

theorem acquisitionGap_of_linking (hstate : s.station.state = .linking) : s.acquisitionGap src = { s with station := { s.station with
    lines := s.station.lines.map fun l => if l.position = src ∧ l.state = .seek then { l with agreements := 0 } else l } } := by
  have hline (l : AcqLine) : (if l.position = src then if l.state = .seek then { l with agreements := 0 } else l else l) =
      if l.position = src ∧ l.state = .seek then { l with agreements := 0 } else l := by
    by_cases hp : l.position = src <;> simp [hp]
  unfold State.acquisitionGap State.mapLine
  simp only [hstate, if_true, hline]

theorem acquisitionGap_of_not_linking (hstate : s.station.state ≠ .linking) : s.acquisitionGap src = s := if_neg hstate

theorem takeGapNotice_eq (src : Fin 10) (s : State) : s.takeGapNotice src = { s with
    table := if s.station.state = .running ∧ s.isDownstream src = true then s.table.map Entry.markGap else s.table } := by
  unfold State.takeGapNotice
  split <;> rfl

theorem takeGapNotice_of_not_running (hstate : s.station.state ≠ .running) : s.takeGapNotice src = s := if_neg fun h => hstate h.1

/-- A gap counted and reported (R50), before it is noticed. -/
def gapCounted (src : Fin 10) (gap : Byte) (s : State) : State :=
  State.raise .seqGap 0 (half (BitVec.ofNat 8 src.val) gap) { s with
    bus := { s.bus with counters := { s.bus.counters with seqGaps := satAdd s.bus.counters.seqGaps gap.toNat } } }

theorem reportGap_eq (src : Fin 10) (gap : Byte) (s : State) : s.reportGap src gap.toNat =
    if s.live then ((gapCounted src gap s).acquisitionGap src).takeGapNotice src else gapCounted src gap s := by
  have hbyte : byteOf gap.toNat = gap := by simp [byteOf]
  unfold State.reportGap gapCounted
  rw [hbyte]
  rfl

theorem gapNoticed_of_other (hlink : s.station.state ≠ .linking) (hrun : s.station.state ≠ .running) (gap : Byte) :
    s.gapNoticed src gap = gapCounted src gap s := by
  unfold State.gapNoticed
  rw [if_neg hlink, if_neg fun h => hrun h.1]
  rfl

/-- A gap counted, reported and noticed, as the statements write it. -/
theorem reportGap_eq_gapNoticed (src : Fin 10) (gap : Byte) (s : State) : s.reportGap src gap.toNat = s.gapNoticed src gap := by
  rw [reportGap_eq]
  have hkept : (gapCounted src gap s).station = s.station := rfl
  by_cases hlink : s.station.state = .linking
  · rw [if_pos ((Laws.live_iff s).2 (.inl hlink)), acquisitionGap_of_linking (hkept ▸ hlink),
      takeGapNotice_of_not_running (by simp [hkept, hlink])]
    unfold State.gapNoticed
    rw [if_pos hlink, if_neg (by simp [hlink])]
    rfl
  · by_cases hrun : s.station.state = .running
    · rw [if_pos ((Laws.live_iff s).2 (.inr (.inl hrun))), acquisitionGap_of_not_linking (hkept ▸ hlink), takeGapNotice_eq]
      unfold State.gapNoticed
      rw [if_neg hlink]
      rfl
    · rw [gapNoticed_of_other hlink hrun, acquisitionGap_of_not_linking (hkept ▸ hlink),
        takeGapNotice_of_not_running (hkept ▸ hrun), ite_self]

/-! ### The tests of R49 and the dispatch (R51) -/

theorem goodCounted_expect (s : State) : s.goodCounted.bus.expect = s.bus.expect := rfl

/-- Each reception command is its telegram received, and dispatched as the statements write it. -/
theorem exec_received (t : Telegram) (src : Fin 10) (seq : Byte) (s : State) :
    exec (t.received src seq) s = .next (s.receive src seq t.isLinking (t.dispatched src)) := by
  have hdispatch (take : State → State) (h : ∀ u, u.live = true → take u = t.dispatched src u) :
      s.receive src seq t.isLinking take = s.receive src seq t.isLinking (t.dispatched src) := by
    have heq : State.dispatch take = State.dispatch (t.dispatched src) := by
      funext u
      unfold State.dispatch
      split
      · exact h u ‹_›
      · rfl
    unfold State.receive
    congr 1
    funext u
    simp only [Laws.takeTelegram_eq, heq]
  have hlive {u : State} (h : u.live = true) := (Laws.live_iff u).1 h
  cases t with
  | announce a => exact congrArg _ (hdispatch _ fun u h => (if_pos (hlive h)).symm)
  | pieceEntry r => exact congrArg _ (hdispatch _ fun u h => (if_pos (hlive h)).symm)
  | pieceWithdraw tag => exact congrArg _ (hdispatch _ fun u h => (if_pos (hlive h)).symm)
  | headBite tag anonymous speed => exact congrArg _ (hdispatch _ fun u h => (if_pos (hlive h)).symm)
  | tailOut tag anonymous => exact congrArg _ (hdispatch _ fun u h => (if_pos (hlive h)).symm)
  | speedReport tag speed => exact congrArg _ (hdispatch _ fun u h => (if_pos (hlive h)).symm)
  | handoffFault tag code => exact congrArg _ (hdispatch _ fun u h => (if_pos (hlive h)).symm)
  | trainStop level cause => exact congrArg _ (hdispatch _ fun u h => (if_pos (hlive h)).symm)
  | trainResume => exact congrArg _ (hdispatch _ fun u h => (if_pos (hlive h)).symm)

theorem dispatched_of_not_live (t : Telegram) (h : s.live = false) : t.dispatched src s = s :=
  if_neg ((Laws.live_iff s).not.1 (by simp [h]))

theorem dispatch_dispatched (t : Telegram) (src : Fin 10) (s : State) : s.dispatch (t.dispatched src) = t.dispatched src s := by
  unfold State.dispatch
  split
  · rfl
  · exact (dispatched_of_not_live t (by simpa using ‹¬ s.live = true›)).symm

/-- The tests of R49 on a good telegram from another station, its outcome named. -/
theorem receive_eq (hother : src.val ≠ s.station.position.toNat) (hlost : s.bus.line ≠ .lost) (linking : Bool) (take : State → State) :
    s.receive src seq linking take =
      match seqOutcome s.bus.expect[src] seq linking with
      | .repeated => { s.goodCounted with bus := { s.goodCounted.bus with
          counters := { s.bus.counters with rxRepeat := satAdd s.bus.counters.rxRepeat 1 } } }
      | .accepted => (s.accepted src seq).dispatch take
      | .gap missed => ((s.accepted src seq).reportGap src missed).dispatch take := by
  unfold State.receive
  rw [Laws.atFrameEnd_eq, if_neg hlost, Laws.takeTelegram_eq, countGood_frameEnds, if_neg (by
    simpa [State.ownPosition, State.goodCounted] using hother)]
  rfl

/-! ### Reception in order (O10) -/

theorem seqOutcome_accepted {expect : Option Byte} {linking : Bool}
    (h : expect = none ∨ expect = some (seq - 1) ∨ (expect ≠ some seq ∧ linking = true)) : seqOutcome expect seq linking = .accepted := by
  obtain rfl | rfl | ⟨hne, rfl⟩ := h
  · rfl
  · have hlast : seq ≠ seq - 1 := by bv_omega
    have hnext : seq = seq - 1 + 1 := by bv_omega
    unfold seqOutcome
    simp only [if_neg hlast, if_pos hnext, ite_self]
  · unfold seqOutcome
    cases expect with
    | none => rfl
    | some last => exact if_neg fun h => hne (by rw [h])

/-- A telegram that passes the tests of R49 is accepted and dispatched. -/
theorem exec_received_accepted (t : Telegram) (hother : src.val ≠ s.station.position.toNat) (hlost : s.bus.line ≠ .lost)
    (h : seqOutcome s.bus.expect[src] seq t.isLinking = .accepted) :
    exec (t.received src seq) s = .next (t.dispatched src (s.accepted src seq)) := by
  rw [exec_received, receive_eq hother hlost, h]
  exact congrArg _ (dispatch_dispatched t src _)

/-- What the statements about one telegram use: a telegram in sequence is accepted and dispatched. -/
theorem exec_received_of_hears (t : Telegram) (hs : s.Hears src seq) :
    exec (t.received src seq) s = .next (t.dispatched src (s.accepted src seq)) := by
  refine exec_received_accepted t hs.other hs.listens ?_
  have hseq := hs.inSequence
  cases he : s.bus.expect[src] with
  | none => exact seqOutcome_accepted (.inl rfl)
  | some last =>
    have hnext : seq = last + 1 := hseq last (by rw [he]; rfl)
    exact seqOutcome_accepted (.inr (.inl (by rw [hnext]; congr 1; bv_omega)))

theorem exec_received_gap (t : Telegram) (hother : src.val ≠ s.station.position.toNat) (hlost : s.bus.line ≠ .lost) {last : Byte}
    (he : s.bus.expect[src] = some last) (hne : last ≠ seq) (hgap : last + 1 ≠ seq) (hlink : t.isLinking = false) :
    exec (t.received src seq) s = .next (t.dispatched src ((s.accepted src seq).gapNoticed src (seq - (last + 1)))) := by
  rw [exec_received, receive_eq hother hlost, he, hlink, Laws.seqOutcome_gap last seq hne.symm hgap.symm, ← reportGap_eq_gapNoticed]
  exact congrArg _ (dispatch_dispatched t src _)

theorem accepted_setExpect (x : Option Byte) (s : State) :
    State.accepted src seq { s with bus := { s.bus with expect := s.bus.expect.set src x } } = s.accepted src seq := by
  unfold State.accepted
  simp only [Vector.set_set]
  rfl

/-- The tests pass a telegram whose number follows the expectation. -/
theorem exec_received_setExpect (t : Telegram) (hother : src.val ≠ s.station.position.toNat) (hlost : s.bus.line ≠ .lost) :
    exec (t.received src seq) { s with bus := { s.bus with expect := s.bus.expect.set src (some (seq - 1)) } } =
      .next (t.dispatched src (s.accepted src seq)) := by
  rw [← accepted_setExpect (some (seq - 1)) s]
  exact exec_received_accepted t hother hlost (seqOutcome_accepted (.inr (.inl (by simp))))

/-- Where the telegram does not end SILENT, a gap may as well be noticed before it as after. -/
theorem accepted_gapNoticed (h : s.bus.state = .silent → s.bus.good < 63) (gap : Byte) :
    (s.gapNoticed src gap).accepted src seq = (s.accepted src seq).gapNoticed src gap := by
  have hends : ¬ (s.bus.state = .silent ∧ 63 ≤ s.bus.good) := fun hs => by
    have := h hs.1
    omega
  have hends' : ¬ ((s.gapNoticed src gap).bus.state = .silent ∧ 63 ≤ (s.gapNoticed src gap).bus.good) := hends
  unfold State.accepted State.goodCounted
  simp only [if_neg hends, if_neg hends']
  rfl

theorem accepted_of_not_live_dispatched (t : Telegram) (h : s.station.state = .configuring ∨ s.station.state = .faulted) :
    t.dispatched src (s.accepted src seq) = s.accepted src seq :=
  dispatched_of_not_live t ((Laws.not_live_iff _).2 h)

/-- Settles O10: the outcome of the tests of R49 case by case, a gap noticed in the state that is then dispatched to. -/
theorem receptionMakesTheSequenceTestsInOrder : Obligations.ReceptionMakesTheSequenceTestsInOrder := by
  intro t src seq s hother hlost
  refine ⟨fun he => ?repeated, fun he => ?accepted, fun last he hne hlink => ?linking, fun last he hne hgap hlink => ?gap⟩
  case repeated =>
    rw [exec_received, receive_eq hother hlost, (Laws.seqOutcome_repeated _ _ _).2 he]
  case accepted =>
    have hexec := exec_received_accepted t hother hlost (seqOutcome_accepted he)
    exact ⟨hexec, fun hstate => by rw [hexec, accepted_of_not_live_dispatched t hstate]⟩
  case linking =>
    rw [exec_received_accepted t hother hlost (seqOutcome_accepted (.inr (.inr ⟨by simpa [he] using hne, hlink⟩))),
      exec_received_setExpect t hother hlost]
  case gap =>
    have hexec := exec_received_gap t hother hlost he hne hgap hlink
    refine ⟨hexec, fun hstate => ?_, fun hsilent _ => ?_⟩
    · have hlink' : (s.accepted src seq).station.state ≠ .linking := by
        obtain h | h := hstate <;> exact fun hl => by simp [State.accepted, State.goodCounted, h] at hl
      have hrun' : (s.accepted src seq).station.state ≠ .running := by
        obtain h | h := hstate <;> exact fun hl => by simp [State.accepted, State.goodCounted, h] at hl
      rw [hexec, gapNoticed_of_other hlink' hrun', dispatched_of_not_live]
      · rfl
      · exact (Laws.not_live_iff _).2 hstate
    · rw [hexec, ← accepted_gapNoticed hsilent]
      exact (exec_received_setExpect (s := s.gapNoticed src (seq - (last + 1))) t hother hlost).symm

/-! ### The station's own position (O11) -/

theorem enterFaulted_eq (cause : FaultCause) (src : Fin 10) (s : State) : s.enterFaulted cause src = s.faultedBy cause src := rfl

/-- Settles O11: the test for the own position comes before those of R49. -/
theorem telegramFromOwnPositionFaultsTheStation : Obligations.TelegramFromOwnPositionFaultsTheStation := by
  intro t src seq s hown hlost counted
  have hexec : exec (t.received src seq) s = .next (if s.live then counted.faultedBy .duplicatePosition src else counted) := by
    rw [exec_received]
    unfold State.receive
    rw [Laws.atFrameEnd_eq, if_neg hlost, Laws.takeTelegram_eq, countGood_frameEnds, if_pos (by
      simpa [State.ownPosition, State.goodCounted] using hown)]
    rfl
  refine ⟨fun hstate => ?_, fun hstate => ?_⟩
  · rw [hexec, if_pos ((Laws.live_iff s).2 hstate)]
  · rw [hexec, if_neg (by simp [(Laws.not_live_iff s).2 hstate])]

end Sys2Proof.Proofs

/-! The line and the counts of the bus unit: the dispatch of a telegram leaves them as the reception has made them (03 R44, R51). -/

namespace Sys2Proof.Proofs

open Sys2Proof.Machine

/-- The part of the bus unit that receptions and attempts alone move: the line, its state, and its two counts. -/
def lineAndCounts (b : Bus) : LineState × BusState × Nat × Nat := (b.line, b.state, b.failures, b.good)

/-! ### Queues, stops and faults -/

@[simp] theorem withQueue_lineAndCounts (b : Bus) (qs : List Queued) (cls : TxClass) :
    lineAndCounts (b.withQueue qs cls) = lineAndCounts b := by
  cases cls <;> rfl

@[simp] theorem queueTelegram_lineAndCounts (t : Telegram) (s : State) : lineAndCounts (s.queueTelegram t).bus = lineAndCounts s.bus := by
  unfold State.queueTelegram
  split
  · rfl
  · have hreplace (qs : List Queued) (cls : TxClass) (a : Option Attempt) :
        lineAndCounts { s.bus.withQueue qs cls with attempt := a } = lineAndCounts s.bus := withQueue_lineAndCounts s.bus qs cls
    split
    · split
      · exact withQueue_lineAndCounts s.bus _ _
      · rfl
    · split
      · exact withQueue_lineAndCounts s.bus _ _
      · rfl
    · exact hreplace _ _ _
    · exact hreplace _ _ _

@[simp] theorem flushForStop_lineAndCounts (b : Bus) : lineAndCounts b.flushForStop = lineAndCounts b := rfl

@[simp] theorem enterFaulted_lineAndCounts (cause : FaultCause) (src : Fin 10) (s : State) :
    lineAndCounts (s.enterFaulted cause src).bus = lineAndCounts s.bus := rfl

@[simp] theorem autoStop_lineAndCounts (level cause : Byte) (s : State) :
    lineAndCounts (s.autoStop level cause).bus = lineAndCounts s.bus := by
  unfold State.autoStop State.originateStop State.takeOwnStop
  split
  · rfl
  · split <;> simp

/-! ### Looper and trim -/

@[simp] theorem requestFlag_lineAndCounts (f : EntryFlags → EntryFlags) (s : State) :
    lineAndCounts (s.requestFlag f).bus = lineAndCounts s.bus := by
  unfold State.requestFlag
  split <;> rfl

@[simp] theorem rampOut_lineAndCounts (s : State) : lineAndCounts s.rampOut.bus = lineAndCounts s.bus := by
  unfold State.rampOut
  split <;> rfl

@[simp] theorem lowerLooper_lineAndCounts (c : ConfigRecord) (s : State) :
    lineAndCounts (s.lowerLooper c).bus = lineAndCounts s.bus := by
  unfold State.lowerLooper
  split <;> simp

@[simp] theorem headLost_lineAndCounts (c : ConfigRecord) (tag : Half) (standing : Bool) (s : State) :
    lineAndCounts (s.headLost c tag standing).bus = lineAndCounts s.bus := by
  simp [State.headLost, apply_ite State.bus]

@[simp] theorem looperArmPoint_lineAndCounts (c : ConfigRecord) (e : Entry) (s : State) :
    lineAndCounts (s.looperArmPoint c e).bus = lineAndCounts s.bus := by
  unfold State.looperArmPoint
  split
  · split <;> rfl
  · rfl

@[simp] theorem looperUnconfirmed_lineAndCounts (s : State) : lineAndCounts s.looperUnconfirmed.bus = lineAndCounts s.bus := by
  unfold State.looperUnconfirmed
  split <;> rfl

@[simp] theorem unsupervise_lineAndCounts (tag why : Half) (s : State) :
    lineAndCounts (s.unsupervise tag why).bus = lineAndCounts s.bus := by
  simp [State.unsupervise]

@[simp] theorem looperConfirmed_lineAndCounts (c : ConfigRecord) (e : Entry) (s : State) :
    lineAndCounts (s.looperConfirmed c e).bus = lineAndCounts s.bus := by
  unfold State.looperConfirmed
  split
  · split
    case h_3 => split <;> simp
    all_goals try split
    all_goals simp
  · rfl

@[simp] theorem track_lineAndCounts (c : ConfigRecord) (e : Entry) (vd : Half) (s : State) :
    lineAndCounts (s.track c e vd).bus = lineAndCounts s.bus := by
  unfold State.track State.retarget
  split
  · dsimp only
    split
    · rfl
    · split <;> rfl
  · rfl

@[simp] theorem trimConfirmed_lineAndCounts (c : ConfigRecord) (e : Entry) (vd : Half) (s : State) :
    lineAndCounts (s.trimConfirmed c e vd).bus = lineAndCounts s.bus := by
  unfold State.trimConfirmed
  split <;> simp

@[simp] theorem takeSpeedReport_lineAndCounts (c : ConfigRecord) (src : Fin 10) (tag speed : Half) (s : State) :
    lineAndCounts (s.takeSpeedReport c src tag speed).bus = lineAndCounts s.bus := by
  unfold State.takeSpeedReport
  split
  · rfl
  · split
    · split
      · rfl
      · rfl
      · split <;> simp
      · split <;> simp
    · rfl

@[simp] theorem takeHandoffFault_lineAndCounts (c : ConfigRecord) (src : Fin 10) (tag : Half) (code : Byte) (s : State) :
    lineAndCounts (s.takeHandoffFault c src tag code).bus = lineAndCounts s.bus := by
  unfold State.takeHandoffFault
  split
  · rfl
  · split
    · dsimp only
      split
      · split <;> simp
      all_goals simp
    · rfl

/-! ### Marks -/

@[simp] theorem windowExpired_lineAndCounts (c : ConfigRecord) (k : Nat) (e : Entry) (s : State) :
    lineAndCounts (s.windowExpired c k e).bus = lineAndCounts s.bus := by
  unfold State.windowExpired
  split
  · split
    · split <;> simp
    · simp
  · rfl

@[simp] theorem reportMark_lineAndCounts (c : ConfigRecord) (k : Nat) (m : Mark) (s : State) :
    lineAndCounts (s.reportMark c k m).bus = lineAndCounts s.bus := by
  unfold State.reportMark
  split
  · rfl
  · cases m <;> dsimp only
    case expiry => simp
    all_goals split <;> simp

@[simp] theorem reportMarks_lineAndCounts (c : ConfigRecord) (k : Nat) (ms : List Mark) (s : State) :
    lineAndCounts (s.reportMarks c k ms).bus = lineAndCounts s.bus := by
  induction ms generalizing s with
  | nil => rfl
  | cons m ms ih => rw [Laws.reportMarks_cons, ih, reportMark_lineAndCounts]

/-! ### The tracking engine -/

@[simp] theorem refreshTag_lineAndCounts (tag : Half) (s : State) : lineAndCounts (s.refreshTag tag).bus = lineAndCounts s.bus := by
  unfold State.refreshTag
  split <;> rfl

@[simp] theorem passOver_lineAndCounts (k : Nat) (s : State) : lineAndCounts (s.passOver k).bus = lineAndCounts s.bus := by
  unfold State.passOver
  exact List.foldlRecOn (motive := fun u : State => lineAndCounts u.bus = lineAndCounts s.bus) _ _ rfl fun u hu e _ => hu

theorem createEntry_lineAndCounts {s t : State} {e : Entry} (h : s.createEntry e = .ok t) : lineAndCounts t.bus = lineAndCounts s.bus := by
  obtain ⟨-, v, hroom, rfl⟩ := Laws.createEntry_eq e s t h
  obtain ⟨rfl, -⟩ | ⟨k, f, -, -, rfl⟩ := Laws.makeRoom_eq s v hroom <;> rfl

@[simp] theorem takePieceEntry_lineAndCounts (c : ConfigRecord) (src : Fin 10) (r : PieceRecord) (s : State) :
    lineAndCounts (s.takePieceEntry c src r).bus = lineAndCounts s.bus := by
  unfold State.takePieceEntry
  split
  · simp
  · split
    · rfl
    · dsimp only
      split
      · simp [State.refusePiece]
      · rfl
      · rename_i created
        exact (createEntry_lineAndCounts created :)

@[simp] theorem takePieceWithdraw_lineAndCounts (src : Fin 10) (tag : Half) (s : State) :
    lineAndCounts (s.takePieceWithdraw src tag).bus = lineAndCounts s.bus := by
  unfold State.takePieceWithdraw
  split
  · simp
  · split
    · rfl
    · split
      · rfl
      · split <;> simp

@[simp] theorem takeUpstreamBite_lineAndCounts (src : Fin 10) (tag : Half) (s : State) :
    lineAndCounts (s.takeUpstreamBite src tag).bus = lineAndCounts s.bus := by
  unfold State.takeUpstreamBite
  split
  · rfl
  · split
    · rfl
    · split
      · dsimp only
        split <;> simp
      · simp

@[simp] theorem tailSeenAt_lineAndCounts (k : Nat) (s : State) : lineAndCounts (s.tailSeenAt k).bus = lineAndCounts s.bus := rfl

@[simp] theorem tailApproaches_lineAndCounts (c : ConfigRecord) (k : Nat) (s : State) :
    lineAndCounts (s.tailApproaches c k).bus = lineAndCounts s.bus := by
  unfold State.tailApproaches
  dsimp only
  split <;> simp

@[simp] theorem takeNamedTail_lineAndCounts (src : Fin 10) (tag : Half) (k : Nat) (e : Entry) (s : State) :
    lineAndCounts (s.takeNamedTail src tag k e).bus = lineAndCounts s.bus := by
  unfold State.takeNamedTail
  cases e.phase <;> dsimp only
  case approaching => split <;> simp
  case announced => split <;> simp
  all_goals simp

@[simp] theorem takeUnnamedTail_lineAndCounts (src : Fin 10) (tag : Half) (s : State) :
    lineAndCounts (s.takeUnnamedTail src tag).bus = lineAndCounts s.bus := by
  unfold State.takeUnnamedTail
  split
  · rfl
  · split
    · rfl
    · split <;> simp

@[simp] theorem takeUpstreamTail_lineAndCounts (c : ConfigRecord) (src : Fin 10) (tag : Half) (s : State) :
    lineAndCounts (s.takeUpstreamTail c src tag).bus = lineAndCounts s.bus := by
  unfold State.takeUpstreamTail
  split
  · dsimp only
    split <;> simp
  · split
    · split <;> simp
    · simp

@[simp] theorem confirmEntry_lineAndCounts (c : ConfigRecord) (k : Nat) (e : Entry) (tag speed : Half) (s : State) :
    lineAndCounts (s.confirmEntry c k e tag speed).bus = lineAndCounts s.bus := by
  unfold State.confirmEntry
  extract_lets mismatch v w x
  have hw : lineAndCounts w.bus = lineAndCounts s.bus := by
    dsimp only [w]
    split <;> rfl
  have hx : lineAndCounts x.bus = lineAndCounts s.bus := by
    dsimp only [x]
    split <;> exact hw
  split
  · split
    · exact hx
    · rw [trimConfirmed_lineAndCounts, looperConfirmed_lineAndCounts, hx]
  · exact hx

@[simp] theorem takeBiteByOrder_lineAndCounts (c : ConfigRecord) (src : Fin 10) (tag speed : Half) (s : State) :
    lineAndCounts (s.takeBiteByOrder c src tag speed).bus = lineAndCounts s.bus := by
  unfold State.takeBiteByOrder
  split
  · rfl
  · split <;> simp

@[simp] theorem takeDownstreamBite_lineAndCounts (c : ConfigRecord) (src : Fin 10) (tag speed : Half) (s : State) :
    lineAndCounts (s.takeDownstreamBite c src tag speed).bus = lineAndCounts s.bus := by
  unfold State.takeDownstreamBite
  split
  · simp
  · split
    · rfl
    · split <;> simp

@[simp] theorem takeDownstreamTail_lineAndCounts (src : Fin 10) (tag : Half) (s : State) :
    lineAndCounts (s.takeDownstreamTail src tag).bus = lineAndCounts s.bus := by
  unfold State.takeDownstreamTail
  split
  · split
    · rfl
    · split <;> simp
  · split
    · rfl
    · split <;> rfl

/-! ### Neighbour acquisition -/

@[simp] theorem countAgreement_lineAndCounts (c : ConfigRecord) (src : Fin 10) (l : AcqLine) (s : State) :
    lineAndCounts (s.countAgreement c src l).bus = lineAndCounts s.bus := by
  unfold State.countAgreement
  split
  · split <;> simp [State.queueLinkingAnnounce]
  all_goals rfl

@[simp] theorem examineHeard_lineAndCounts (src : Fin 10) (a : Announce) (s : State) :
    lineAndCounts (s.examineHeard src a).bus = lineAndCounts s.bus := by
  unfold State.examineHeard
  split
  · rfl
  · split
    · dsimp only
      split <;> rfl
    · rfl

@[simp] theorem announceWhileLinking_lineAndCounts (c : ConfigRecord) (src : Fin 10) (l : AcqLine) (a : Announce) (s : State) :
    lineAndCounts (s.announceWhileLinking c src l a).bus = lineAndCounts s.bus := by
  unfold State.announceWhileLinking
  split
  · rfl
  · split
    · rfl
    · simp

@[simp] theorem announceWhileRunning_lineAndCounts (c : ConfigRecord) (src : Fin 10) (l : AcqLine) (a : Announce) (s : State) :
    lineAndCounts (s.announceWhileRunning c src l a).bus = lineAndCounts s.bus := by
  unfold State.announceWhileRunning
  extract_lets v
  have hv : lineAndCounts v.bus = lineAndCounts s.bus := by
    dsimp only [v]
    split
    · exact queueTelegram_lineAndCounts _ s
    · rfl
  split
  · exact hv
  · split <;> exact hv

@[simp] theorem takeAnnounce_lineAndCounts (src : Fin 10) (a : Announce) (s : State) :
    lineAndCounts (s.takeAnnounce src a).bus = lineAndCounts s.bus := by
  unfold State.takeAnnounce
  split
  · split
    case h_4 | h_5 => rfl
    all_goals simp
  · rfl

/-! ### Every telegram -/

theorem whenRunning_lineAndCounts {take : ConfigRecord → State → State} {s : State}
    (h : ∀ c, lineAndCounts (take c s).bus = lineAndCounts s.bus) : lineAndCounts (s.whenRunning take).bus = lineAndCounts s.bus := by
  unfold State.whenRunning
  split
  · split
    · exact h _
    · rfl
  · rfl

@[simp] theorem takeStop_lineAndCounts (src : Fin 10) (level cause : Byte) (s : State) :
    lineAndCounts (s.takeStop src level cause).bus = lineAndCounts s.bus :=
  whenRunning_lineAndCounts fun c => by split <;> rfl

@[simp] theorem takeResume_lineAndCounts (src : BitVec 4) (s : State) : lineAndCounts (s.takeResume src).bus = lineAndCounts s.bus := by
  unfold State.takeResume
  split
  · split <;> rfl
  · rfl

@[simp] theorem takeHeadBite_lineAndCounts (c : ConfigRecord) (src : Fin 10) (tag : Half) (anonymous : Bool) (speed : Half) (s : State) :
    lineAndCounts (s.takeHeadBite c src tag anonymous speed).bus = lineAndCounts s.bus := by
  unfold State.takeHeadBite
  dsimp only
  split
  · simp
  · split <;> simp

@[simp] theorem takeTailOut_lineAndCounts (c : ConfigRecord) (src : Fin 10) (tag : Half) (anonymous : Bool) (s : State) :
    lineAndCounts (s.takeTailOut c src tag anonymous).bus = lineAndCounts s.bus := by
  unfold State.takeTailOut
  dsimp only
  split
  · simp
  · split <;> simp

/-- What a telegram is dispatched to moves neither the line nor the counts. -/
theorem dispatched_lineAndCounts (t : Telegram) (src : Fin 10) (s : State) :
    lineAndCounts (t.dispatched src s).bus = lineAndCounts s.bus := by
  unfold Telegram.dispatched
  split
  · cases t with
    | announce a => simp
    | pieceEntry r => exact whenRunning_lineAndCounts fun c => by simp
    | pieceWithdraw tag => exact whenRunning_lineAndCounts fun c => by simp
    | headBite tag anonymous speed => exact whenRunning_lineAndCounts fun c => by simp
    | tailOut tag anonymous => exact whenRunning_lineAndCounts fun c => by simp
    | speedReport tag speed => exact whenRunning_lineAndCounts fun c => by simp
    | handoffFault tag code => exact whenRunning_lineAndCounts fun c => by simp
    | trainStop level cause => simp
    | trainResume => simp
  · rfl

/-! ### The good count (O12) -/

theorem reportGap_lineAndCounts (src : Fin 10) (gap : Nat) (s : State) : lineAndCounts (s.reportGap src gap).bus = lineAndCounts s.bus := by
  unfold State.reportGap State.takeGapNotice State.acquisitionGap
  dsimp only
  split
  · split <;> split <;> rfl
  · rfl

/-- A good telegram leaves the line and the counts as counting it makes them, whatever it says. -/
theorem received_lineAndCounts (t : Telegram) (src : Fin 10) (seq : Byte) {s : State} (hlost : s.bus.line ≠ .lost) :
    ∃ u, exec (t.received src seq) s = .next u ∧ lineAndCounts u.bus = lineAndCounts s.goodCounted.bus := by
  by_cases hown : src.val = s.station.position.toNat
  · obtain ⟨hfaults, hcounts⟩ := telegramFromOwnPositionFaultsTheStation t src seq s hown hlost
    by_cases hlive : s.live = true
    · exact ⟨_, hfaults ((Laws.live_iff s).1 hlive), rfl⟩
    · exact ⟨_, hcounts ((Laws.not_live_iff s).1 (by simpa using hlive)), rfl⟩
  · rw [exec_received, receive_eq hown hlost]
    cases seqOutcome s.bus.expect[src] seq t.isLinking with
    | repeated => exact ⟨_, rfl, rfl⟩
    | accepted => exact ⟨_, rfl, by dsimp only; rw [dispatch_dispatched, dispatched_lineAndCounts]; rfl⟩
    | gap missed => exact ⟨_, rfl, by dsimp only; rw [dispatch_dispatched, dispatched_lineAndCounts, reportGap_lineAndCounts]; rfl⟩

/-- In the rest of a frame in which the own attempt has failed no telegram is taken (log 15). -/
theorem exec_received_of_lost (t : Telegram) (src : Fin 10) (seq : Byte) {s : State} (hlost : s.bus.line = .lost) :
    exec (t.received src seq) s = .next (s.idleAt 0) := by
  rw [exec_received]
  unfold State.receive
  rw [Laws.atFrameEnd_eq, if_pos hlost]
  rfl

theorem goodCounted_of_ends {s : State} (hstate : s.bus.state = .silent) (hgood : 63 ≤ s.bus.good) : s.goodCounted =
    State.raise .busActive 0 0 { s with bus := { s.bus with
      line := if s.bus.attempt.isSome then s.bus.line else .idle 0, state := .active, failures := 0, good := 0 } } := by
  unfold State.goodCounted
  simp only [if_pos (And.intro hstate hgood)]
  rfl

/-- Settles O12: what counting a good telegram does, which no dispatch undoes; a bad reception resets the count. -/
theorem consecutiveGoodCountLeadsOutOfSilent : Obligations.ConsecutiveGoodCountLeadsOutOfSilent := by
  refine ⟨fun t src seq s => ⟨exec_received_of_lost t src seq, fun hlost => ?counted, fun hs hstate hgood => ?ends⟩, fun why s => ?failed,
    fun why s => ?malformed⟩
  case counted =>
    obtain ⟨u, hu, hparts⟩ := received_lineAndCounts t src seq hlost
    simp only [lineAndCounts, Prod.mk.injEq] at hparts
    obtain ⟨hline, hstate, hfailures, hgood⟩ := hparts
    refine ⟨u, hu, ?_⟩
    rw [hline, hstate, hfailures, hgood]
    refine ⟨fun h => ?_, fun h => ?_, fun h => ?_, fun h hlow => ?_, fun h hhigh => ?_⟩
    · simp [State.goodCounted, h]
    · simp [State.goodCounted, Option.isSome_iff_ne_none.2 h]
    · simp [State.goodCounted, h]
    · have hnot : ¬ 63 ≤ s.bus.good := by omega
      have hmin : min 64 (s.bus.good + 1) = s.bus.good + 1 := by omega
      simp [State.goodCounted, h, hnot, hmin]
    · simp [State.goodCounted, h, hhigh]
  case ends =>
    rw [exec_received_of_hears t hs]
    unfold State.accepted
    rw [goodCounted_of_ends hstate hgood]
    rfl
  case failed => exact ⟨fun h => congrArg _ (if_pos h), fun h => congrArg _ (if_neg h)⟩
  case malformed => exact ⟨fun h => congrArg _ (if_pos h), fun h => congrArg _ (if_neg h)⟩

end Sys2Proof.Proofs

/-! Neighbour acquisition (02 Sections 2.5 and 2.6): heard sets, the agreement tests, and what an ANNOUNCE does. -/

namespace Sys2Proof.Proofs

open Sys2Proof.Machine

variable {c : ConfigRecord} {src : Fin 10} {l : AcqLine} {a : Announce} {s : State}

/-! ### Sets of positions -/

theorem position_bit (p : Fin 10) (i : Nat) : ((1 : BitVec 10) <<< p.val).getLsbD i = decide (p.val = i) := by
  have hp := p.isLt
  rw [Bool.eq_iff_iff, BitVec.getLsbD_shiftLeft, show (1 : BitVec 10) = 1#10 from rfl, BitVec.getLsbD_one]
  simp only [Bool.and_eq_true, decide_eq_true_eq, Bool.not_eq_true', decide_eq_false_iff_not]
  omega

theorem positionSet_bit (ps : List (Fin 10)) (i : Nat) : (positionSet ps).getLsbD i = true ↔ ∃ p ∈ ps, p.val = i := by
  have hfold (acc : BitVec 10) : (ps.foldl (fun acc p => acc ||| (1 : BitVec 10) <<< p.val) acc).getLsbD i = true ↔
      acc.getLsbD i = true ∨ ∃ p ∈ ps, p.val = i := by
    induction ps generalizing acc with
    | nil => simp
    | cons p ps ih => simp only [List.foldl_cons, ih, BitVec.getLsbD_or, position_bit]; simp [or_assoc]
  exact (hfold 0).trans (by simp)

/-- Bit i of the positions of some lines: one of them is at position i. -/
theorem positions_bit (st : Station) (p : AcqLine → Bool) (i : Nat) :
    (positionSet (st.positions p)).getLsbD i = true ↔ ∃ m ∈ st.lines, m.position.val = i ∧ p m = true := by
  simp only [positionSet_bit, Station.positions, List.mem_map, List.mem_filter]
  constructor
  · rintro ⟨_, ⟨m, ⟨hm, hp⟩, rfl⟩, hi⟩
    exact ⟨m, hm, hi, hp⟩
  · rintro ⟨m, hm, hi, hp⟩
    exact ⟨m.position, ⟨m, ⟨hm, hp⟩, rfl⟩, hi⟩

/-! ### The agreement tests (R22) -/

theorem trainAgrees_iff (c : ConfigRecord) (a : Announce) : trainAgrees c a = true ↔ a.trainId = c.trainId ∧
    a.trainSize.toNat = c.trainSize.toNat ∧ a.exitPresent = (c.exitPresent == 1) ∧ a.reportPeriod = c.reportPeriod := by
  simp [trainAgrees, ConfigRecord.n, ConfigRecord.hasExit, and_assoc]

theorem adjacencyAgrees_iff (c : ConfigRecord) (r : Relation) (a : Announce) : adjacencyAgrees c r a = true ↔
    (r = .upstream ∧ a.lDn = c.lUp) ∨ (r = .downstream ∧ a.lUp = c.lDn) := by
  cases r <;> simp [adjacencyAgrees]

/-! ### The lines -/

/-- A line as it is after a change that keeps its position. -/
theorem mapLine_line? (f : AcqLine → AcqLine) (hf : ∀ m, (f m).position = m.position) (hl : s.line? src = some l) :
    (s.mapLine src f).line? src = some (f l) := by
  have hpos : ((fun m : AcqLine => decide (m.position = src)) ∘ fun m => if m.position = src then f m else m) =
      fun m => decide (m.position = src) := by
    funext m
    by_cases hm : m.position = src <;> simp [hm, hf]
  have hsrc : l.position = src := by simpa using List.find?_some hl
  unfold State.mapLine State.line?
  rw [List.find?_map, hpos]
  exact (congrArg _ hl).trans (by simp [hsrc])

/-- A change of the line at src leaves the others as they are. -/
theorem mapLine_others (f : AcqLine → AcqLine) (hf : ∀ m, (f m).position = m.position) :
    (∀ m ∈ (s.mapLine src f).station.lines, m.position ≠ src → m.state = .acked) ↔
      ∀ m ∈ s.station.lines, m.position ≠ src → m.state = .acked := by
  simp only [State.mapLine, List.mem_map, forall_exists_index, and_imp, forall_apply_eq_imp_iff₂]
  refine forall₂_congr fun m _ => ?_
  by_cases hm : m.position = src <;> simp [hm, hf]

theorem mapLine_allAcked (src : Fin 10) (s : State) :
    ((s.mapLine src fun l => { l with state := .acked }).station.lines.all fun m => m.state = .acked) = true ↔
      ∀ m ∈ s.station.lines, m.position ≠ src → m.state = .acked := by
  simp only [State.mapLine, List.all_map, List.all_eq_true, Function.comp_apply, decide_eq_true_eq]
  refine forall₂_congr fun m _ => ?_
  by_cases hm : m.position = src <;> simp [hm]

/-- The lines heard once the neighbour at src is MATCHED. -/
theorem heard_of_matched (hl : s.line? src = some l) (p : Fin 10) :
    (positionSet ((s.mapLine src fun l => { l with state := .matched, agreements := l.agreements + 1 }).station.positions
      fun l => l.state ≠ .seek)).getLsbD p.val = true ↔ p = src ∨ ∃ m ∈ s.station.lines, m.position = p ∧ m.state ≠ .seek := by
  have hsrc : l.position = src := by simpa using List.find?_some hl
  have hmem : l ∈ s.station.lines := List.mem_of_find?_eq_some hl
  rw [positions_bit]
  simp only [State.mapLine, List.mem_map, decide_eq_true_eq, Fin.val_inj]
  constructor
  · rintro ⟨_, ⟨m, hm, rfl⟩, hp, hstate⟩
    by_cases hms : m.position = src
    · exact .inl (by simpa [hms] using hp.symm)
    · exact .inr ⟨m, hm, by simpa [hms] using hp, by simpa [hms] using hstate⟩
  · rintro (rfl | ⟨m, hm, rfl, hstate⟩)
    · exact ⟨_, ⟨l, hmem, rfl⟩, by simp [hsrc], by simp [hsrc]⟩
    · refine ⟨_, ⟨m, hm, rfl⟩, ?_, ?_⟩
      · split <;> rfl
      · split
        · simp
        · exact hstate

/-! ### Acquiring (R22 to R24) -/

@[simp] theorem queueLinkingAnnounce_station (c : ConfigRecord) (s : State) : (s.queueLinkingAnnounce c).station = s.station :=
  Laws.queueTelegram_station _ s

theorem queueLinkingAnnounce_line? (c : ConfigRecord) (s : State) (src : Fin 10) : (s.queueLinkingAnnounce c).line? src = s.line? src := by
  unfold State.line?
  rw [queueLinkingAnnounce_station]

/-- An agreeing ANNOUNCE that MATCHED lines examine: acknowledged, and the last one takes the station into RUNNING. -/
theorem examineHeard_of_matched (hl : s.line? src = some l) (hstate : l.state = .matched)
    (hheard : a.heard.getLsbD s.station.position.toNat = true) : s.examineHeard src a =
      if (∀ m ∈ s.station.lines, m.position ≠ src → m.state = .acked) then
        (s.mapLine src fun l => { l with state := .acked }).enterRunning
      else s.mapLine src fun l => { l with state := .acked } := by
  simp only [State.examineHeard, hl, hstate, hheard, and_self, if_true]
  exact if_congr (mapLine_allAcked src s) rfl rfl

theorem examineHeard_of_not (hl : s.line? src = some l)
    (h : l.state ≠ .matched ∨ a.heard.getLsbD s.station.position.toNat = false) : s.examineHeard src a = s := by
  simp only [State.examineHeard, hl]
  exact if_neg fun ⟨hm, hh⟩ => by simp_all

theorem countAgreement_of_third (hstate : l.state = .seek) (hcount : 2 ≤ l.agreements) : s.countAgreement c src l =
    (s.mapLine src fun l => { l with state := .matched, agreements := l.agreements + 1 }).queueLinkingAnnounce c := by
  simp only [State.countAgreement, hstate]
  exact if_pos (by unfold agreementsNeeded; omega)

theorem countAgreement_of_earlier (hstate : l.state = .seek) (hcount : l.agreements < 2) : s.countAgreement c src l =
    s.mapLine src fun l => { l with agreements := l.agreements + 1 } := by
  simp only [State.countAgreement, hstate]
  exact if_neg (by unfold agreementsNeeded; omega)

theorem countAgreement_of_not_seek (hstate : l.state ≠ .seek) : s.countAgreement c src l = s := by
  unfold State.countAgreement
  cases h : l.state with
  | seek => exact absurd h hstate
  | matched => rfl
  | acked => rfl

/-- An ANNOUNCE that hears is taken in the state that its reception leaves. -/
theorem exec_announce_of_hears {seq : Byte} (hs : s.Hears src seq) (hlive : s.live = true) :
    exec (.announceReceived src seq a) s = .next ((s.accepted src seq).takeAnnounce src a) :=
  (exec_received_of_hears (.announce a) hs).trans (congrArg _ (if_pos ((Laws.live_iff s).1 hlive)))

theorem takeAnnounce_of_linking (hstate : s.station.state = .linking) (hc : s.station.config = some c) (hl : s.line? src = some l) :
    s.takeAnnounce src a = s.announceWhileLinking c src l a := by
  simp only [State.takeAnnounce, hc, hl, hstate]

theorem announceWhileLinking_of_agrees (htrain : trainAgrees c a = true) (hadj : adjacencyAgrees c l.relation a = true) :
    s.announceWhileLinking c src l a = (s.countAgreement c src l).examineHeard src a := by
  simp only [State.announceWhileLinking, htrain, hadj, not_true_eq_false, if_false]

/-- Settles O15: the tests of agreement, then the line as the count and the heard set move it. -/
theorem announceWhileLinkingAcquiresTheNeighbour : Obligations.AnnounceWhileLinkingAcquiresTheNeighbour := by
  intro c src seq a l s hs hstate hc hl train adjacent u withLine othersAcked
  have hlu : u.line? src = some l := hl
  have hexec : exec (.announceReceived src seq a) s = .next (u.announceWhileLinking c src l a) :=
    (exec_announce_of_hears hs ((Laws.live_iff s).2 (.inl hstate))).trans
      (congrArg _ (takeAnnounce_of_linking (s := u) hstate hc hlu))
  have hagrees (ht : train) (ha : adjacent) : u.announceWhileLinking c src l a = (u.countAgreement c src l).examineHeard src a :=
    announceWhileLinking_of_agrees ((trainAgrees_iff c a).2 ht) ((adjacencyAgrees_iff c l.relation a).2 ha)
  rw [hexec]
  refine ⟨fun ht => ?train, fun ht ha => ?distance, fun ht ha hseek hfew => ?counted, fun ht ha hseek hthird hunheard => ?matched,
    fun ht ha hseek hthird hheard => ?acked, fun ht ha hmatched hunheard => ?waits, fun ht ha hmatched hheard hothers => ?acknowledged,
    fun ht ha hmatched hheard hothers => ?linked, fun ht ha hacked => ?already⟩
  case train => exact congrArg _ (if_pos (mt (trainAgrees_iff c a).1 ht))
  case distance =>
    exact congrArg _ ((if_neg (not_not.2 ((trainAgrees_iff c a).2 ht))).trans (if_pos (mt (adjacencyAgrees_iff c l.relation a).1 ha)))
  case counted =>
    have hline := mapLine_line? (fun l => { l with agreements := l.agreements + 1 }) (fun _ => rfl) hlu
    rw [hagrees ht ha, countAgreement_of_earlier hseek hfew, examineHeard_of_not hline (.inl (by simp [hseek]))]
    rfl
  case matched =>
    have hline := mapLine_line? (fun l => { l with state := .matched, agreements := l.agreements + 1 }) (fun _ => rfl) hlu
    refine ⟨_, ?_, heard_of_matched hlu⟩
    rw [hagrees ht ha, countAgreement_of_third hseek hthird, examineHeard_of_not ((queueLinkingAnnounce_line? c _ src).trans hline)
      (.inr (by rw [queueLinkingAnnounce_station]; exact hunheard))]
    rfl
  case acked =>
    refine ⟨_, heard_of_matched hlu, ?_⟩
    have hline := mapLine_line? (fun l => { l with state := .matched, agreements := l.agreements + 1 }) (fun _ => rfl) hlu
    have hexamined := examineHeard_of_matched (a := a) ((queueLinkingAnnounce_line? c _ src).trans hline) rfl
      (by rw [queueLinkingAnnounce_station]; exact hheard)
    have hothers : (∀ m ∈ ((u.mapLine src fun l => { l with state := .matched, agreements := l.agreements + 1 }).queueLinkingAnnounce
        c).station.lines, m.position ≠ src → m.state = .acked) ↔ othersAcked := by
      rw [queueLinkingAnnounce_station]
      exact mapLine_others _ fun _ => rfl
    rw [hagrees ht ha, countAgreement_of_third hseek hthird, hexamined]
    exact ⟨fun h => congrArg _ (if_neg (mt hothers.1 h)), fun h => congrArg _ (if_pos (hothers.2 h))⟩
  case waits =>
    rw [hagrees ht ha, countAgreement_of_not_seek (by simp [hmatched]), examineHeard_of_not hlu (.inr hunheard)]
  case acknowledged =>
    rw [hagrees ht ha, countAgreement_of_not_seek (by simp [hmatched]), examineHeard_of_matched hlu hmatched hheard]
    exact congrArg _ (if_neg hothers)
  case linked =>
    rw [hagrees ht ha, countAgreement_of_not_seek (by simp [hmatched]), examineHeard_of_matched hlu hmatched hheard]
    exact congrArg _ (if_pos hothers)
  case already =>
    rw [hagrees ht ha, countAgreement_of_not_seek (by simp [hacked]), examineHeard_of_not hlu (.inl (by simp [hacked]))]

/-! ### A neighbour that rejoins (R25, R26) -/

theorem takeAnnounce_of_runs (hstate : s.station.state = .running ∨ s.station.state = .stopped) (hc : s.station.config = some c)
    (hl : s.line? src = some l) : s.takeAnnounce src a = s.announceWhileRunning c src l a := by
  obtain h | h := hstate <;> simp only [State.takeAnnounce, hc, hl, h]

/-- Every required neighbour is heard. -/
theorem heard_of_every (s : State) (p : Fin 10) : (positionSet (s.station.positions fun _ => true)).getLsbD p.val = true ↔
    ∃ m ∈ s.station.lines, m.position = p := by
  simp only [positions_bit, Fin.val_inj, and_true]

/-- Settles O16: the answer, then the two tests of agreement. -/
theorem announceWhileRunningIsAnsweredAndFaultsNothing : Obligations.AnnounceWhileRunningIsAnsweredAndFaultsNothing := by
  intro c src seq a s hs hc u
  refine ⟨fun hlive hnone => ?_, fun hstate l hl => ⟨_, heard_of_every s, ?_⟩⟩
  · rw [exec_announce_of_hears hs ((Laws.live_iff s).2 hlive)]
    have hu : u.takeAnnounce src a = u := by
      simp only [State.takeAnnounce, show u.line? src = none from hnone, show u.station.config = some c from hc]
    exact congrArg _ hu
  · rw [exec_announce_of_hears hs ((Laws.live_iff s).2 (.inr hstate))]
    have hu : u.takeAnnounce src a = u.announceWhileRunning c src l a := takeAnnounce_of_runs (s := u) hstate hc hl
    refine (congrArg _ hu).trans (congrArg _ ?_)
    exact if_congr (not_congr (trainAgrees_iff c a)) rfl (if_congr (not_congr (adjacencyAgrees_iff c l.relation a)) rfl rfl)

/-! ### The timers of LINKING (R20, R21) -/

/-- The lines not ACKED, as the event names them. -/
theorem missing_bit (s : State) (i : Nat) :
    ((positionSet (s.station.positions fun (l : AcqLine) => l.state != AcqState.acked)).setWidth 16 : Half).getLsbD i = true ↔
      ∃ m ∈ s.station.lines, m.position.val = i ∧ m.state ≠ .acked := by
  rw [BitVec.getLsbD_setWidth, Bool.and_eq_true, positions_bit, decide_eq_true_eq]
  simp only [bne_iff_ne]
  refine and_iff_right_of_imp ?_
  rintro ⟨m, -, rfl, -⟩
  have := m.position.isLt
  omega

theorem heard_of_acquired (s : State) (p : Fin 10) : (positionSet (s.station.positions fun l => l.state ≠ .seek)).getLsbD p.val = true ↔
    ∃ m ∈ s.station.lines, m.position = p ∧ m.state ≠ .seek := by
  simp only [positions_bit, Fin.val_inj, decide_eq_true_eq]

/-- Settles O42: the conditions of the two commands, and the bits of what they tell. -/
theorem linkingTimersAnnounceAndComplain : Obligations.LinkingTimersAnnounceAndComplain := by
  intro c s hc
  have hannounce : exec .announceTimerExpiry s = if s.station.state = .linking ∧ s.station.announceTimer.expired = true then
      .next ({ s with station := { s.station with announceTimer := some c.announcePeriod.toNat } }.queueLinkingAnnounce c)
      else .next s := by
    show execAnnounceTimerExpiry s = _
    simp only [execAnnounceTimerExpiry, hc]
  have hlink : exec .linkTimeout s = if s.station.state = .linking ∧ s.station.linkTimer.expired = true then
      .next ({ s with station := { s.station with linkTimer := some c.linkTimeoutMs } }.raise .linkTimeout 0
        ((positionSet (s.station.positions fun (l : AcqLine) => l.state != AcqState.acked)).setWidth 16))
      else .next s := by
    show execLinkTimeout s = _
    simp only [execLinkTimeout, hc]
  rw [hannounce, hlink]
  simp only [timer_expired_iff]
  refine ⟨fun hstate hdue => ⟨_, heard_of_acquired s, if_pos ⟨hstate, hdue⟩⟩, fun hstate hdue => ⟨_, missing_bit s, if_pos ⟨hstate, hdue⟩⟩,
    fun h => if_neg fun ⟨hstate, hdue⟩ => ?_, fun h => if_neg fun ⟨hstate, hdue⟩ => ?_⟩
  · exact h.elim (· hstate) (· hdue)
  · exact h.elim (· hstate) (· hdue)

end Sys2Proof.Proofs

/-! Piece records (04 Sections 4.2, 4.4 and 4.8): the telegrams and the commands that bring or withdraw a piece. -/

namespace Sys2Proof.Proofs

open Sys2Proof.Machine

variable {c : ConfigRecord} {src : Fin 10} {seq : Byte} {s : State}

/-! ### Telegrams of a RUNNING station (R62) -/

theorem accepted_runs (hr : s.Runs c) : (s.accepted src seq).Runs c := ⟨hr.running, hr.config⟩

/-- In RUNNING a telegram of the tracking engine or the trim calculator is taken under the record in force. -/
theorem whenRunning_of_runs {take : ConfigRecord → State → State} (hr : s.Runs c) :
    (if s.station.state = .linking ∨ s.station.state = .running ∨ s.station.state = .stopped then s.whenRunning take else s) = take c s := by
  rw [if_pos (.inr (.inl hr.running))]
  simp only [State.whenRunning, hr.config, hr.running, if_true]

/-! ### Finding and refreshing entries (R58, R59) -/

theorem slotOfTag_of_Unknown {t : Half} (h : s.Unknown t) : s.slotOfTag t = none := (Laws.slotOfTag_eq_none s t).2 h

theorem slotOfTag_isSome_of_known {t : Half} (h : ¬ s.Unknown t) : (s.slotOfTag t).isSome = true := by
  rw [Option.isSome_iff_ne_none]
  exact mt (Laws.slotOfTag_eq_none s t).1 h

theorem refreshTag_eq_touched (t : Half) (s : State) : s.refreshTag t = s.touched t := by
  unfold State.refreshTag State.touched State.slotOfTag
  by_cases ht : t = 0
  · simp [ht]
  · rw [if_neg ht, if_neg ht]
    rfl

theorem refreshTag_of_Names {t : Half} {k : Nat} {e : Entry} (h : s.Names t k e) : s.refreshTag t = s.refreshed k := by
  unfold State.refreshTag
  rw [slotOfTag_of_Names h]
  rfl

/-! ### Room for a new entry (R60) -/

theorem makeRoom_of_room (h : s.table.length < 8) : s.makeRoom = some s := if_pos h

theorem makeRoom_of_full (hfull : 8 ≤ s.table.length) (h : ∀ e ∈ s.table, e.phase ≠ .cleared) : s.makeRoom = none := by
  unfold State.makeRoom
  rw [if_neg (by unfold tableRoom; omega), oldest_eq_none_of_forall h]

theorem makeRoom_of_Oldest (hfull : 8 ≤ s.table.length) {k : Nat} {e : Entry} (h : s.Oldest (fun e => e.phase = .cleared) k e) :
    s.makeRoom = some { s.raise .pieceEvicted e.tag (e.downstream.code.setWidth 16) with table := s.table.eraseIdx k } := by
  unfold State.makeRoom
  rw [if_neg (by unfold tableRoom; omega), oldest_of_Oldest h]
  simp only [h.1]
  rfl

theorem createEntry_of_known {e : Entry} (h : ¬ s.Unknown e.tag) : s.createEntry e = .error .duplicate :=
  if_pos (slotOfTag_isSome_of_known h)

theorem createEntry_of_makeRoom {e : Entry} (h : s.Unknown e.tag) : s.createEntry e =
    match s.makeRoom with
    | none => .error .full
    | some u => .ok { u with table := u.table ++ [e] } := by
  unfold State.createEntry
  rw [slotOfTag_of_Unknown h]
  rfl

theorem raiseAdded_append (e : Entry) (es : List Entry) (s : State) : State.raiseAdded e { s with table := es ++ [e] } =
    State.raise .pieceAdded e.tag (half e.origin.code (byteOf es.length)) { s with table := es ++ [e] } := by
  unfold State.raiseAdded
  rw [show (es ++ [e]).length - 1 = es.length by simp]
  rfl

theorem length_eraseIdx_of_Oldest {p : Entry → Prop} {k : Nat} {e : Entry} (h : s.Oldest p k e) :
    (s.table.eraseIdx k).length = s.table.length - 1 :=
  List.length_eraseIdx_of_lt (List.getElem?_eq_some_iff.1 h.1).1

/-! ### PIECE_ENTRY and PIECE_WITHDRAW telegrams -/

theorem exec_pieceEntry {r : PieceRecord} (hs : s.Hears src seq) (hr : s.Runs c) :
    exec (.pieceEntryReceived src seq r) s = .next ((s.accepted src seq).takePieceEntry c src r) :=
  (exec_received_of_hears (.pieceEntry r) hs).trans (congrArg _ (whenRunning_of_runs (accepted_runs hr)))

theorem exec_pieceWithdraw {t : Half} (hs : s.Hears src seq) (hr : s.Runs c) :
    exec (.pieceWithdrawReceived src seq t) s = .next ((s.accepted src seq).takePieceWithdraw src t) :=
  (exec_received_of_hears (.pieceWithdraw t) hs).trans (congrArg _ (whenRunning_of_runs (accepted_runs hr)))

/-- What a record that passes the check leads to. -/
theorem takePieceEntry_of_valid {r : PieceRecord} (hvalid : checkRecord c.trainSize.toNat r = none) : s.takePieceEntry c 0 r =
    match s.createEntry (announcedEntry c s.station.position .bus r) with
    | .error .duplicate => (s.touched r.tag).refusePiece r.tag .duplicate
    | .error why => s.refusePiece r.tag why
    | .ok v => v.raiseAdded (announcedEntry c s.station.position .bus r) := by
  rw [← refreshTag_eq_touched]
  simp only [State.takePieceEntry, ConfigRecord.n, hvalid, ne_eq, not_true_eq_false, if_false]
  rfl

/-- Settles O18: the source, the check of the record, then the creation and its two refusals. -/
theorem pieceEntryCreatesAnEntryOrIsRefused : Obligations.PieceEntryCreatesAnEntryOrIsRefused := by
  intro c src seq r s hs hr u new
  rw [exec_pieceEntry hs hr]
  refine ⟨fun hsrc => ?_, fun f hsrc hf => ?_, ?_⟩
  · rw [← refreshTag_eq_touched]
    exact congrArg _ (if_pos hsrc)
  · subst hsrc
    exact congrArg _ (by simp only [State.takePieceEntry, ConfigRecord.n, hf, ne_eq, not_true_eq_false, if_false]; rfl)
  · rintro rfl hvalid
    have htake := takePieceEntry_of_valid (s := u) hvalid
    refine ⟨fun hknown => ?_, fun hnew hroom => ?_, fun hnew hfull hnone => ?_, fun k e hnew hfull hold => ?_⟩
    · rw [createEntry_of_known (s := u) hknown] at htake
      exact congrArg _ htake
    · rw [createEntry_of_makeRoom (s := u) hnew, makeRoom_of_room (s := u) hroom] at htake
      exact congrArg _ (htake.trans (raiseAdded_append new s.table u))
    · rw [createEntry_of_makeRoom (s := u) hnew, makeRoom_of_full (s := u) hfull hnone] at htake
      exact congrArg _ htake
    · rw [createEntry_of_makeRoom (s := u) hnew, makeRoom_of_Oldest (s := u) hfull hold] at htake
      rw [← length_eraseIdx_of_Oldest hold]
      exact congrArg _ (htake.trans (raiseAdded_append new (s.table.eraseIdx k) (u.raise .pieceEvicted e.tag _)))

theorem takePieceWithdraw_of_Unknown {t : Half} (h : s.Unknown t) : s.takePieceWithdraw 0 t = s.frameUnexpected 3 0 0 t := by
  simp only [State.takePieceWithdraw, slotOfTag_of_Unknown h, ne_eq, not_true_eq_false, if_false]
  rfl

theorem takePieceWithdraw_of_Names {t : Half} {k : Nat} {e : Entry} (h : s.Names t k e) : s.takePieceWithdraw 0 t =
    if e.phase = .announced then s.withdrawEntry k e .withdraw else (s.refreshed k).frameUnexpected 3 0 1 t := by
  rw [← refreshTag_of_Names h]
  simp only [State.takePieceWithdraw, slotOfTag_of_Names h, h.2.1, ne_eq, not_true_eq_false, if_false]
  rfl

/-- Settles O19: the source, then the entry that the tag names, and its phase. -/
theorem pieceWithdrawTelegramRemovesAnAnnouncedEntry : Obligations.PieceWithdrawTelegramRemovesAnAnnouncedEntry := by
  intro c src seq t s hs hr u
  rw [exec_pieceWithdraw hs hr]
  refine ⟨fun hsrc => ?_, fun hsrc hnew => ?_, fun k e hsrc hnames => ?_⟩
  · rw [← refreshTag_eq_touched]
    exact congrArg _ (if_pos hsrc)
  · subst hsrc
    exact congrArg _ (takePieceWithdraw_of_Unknown (s := u) hnew)
  · subst hsrc
    have htake := takePieceWithdraw_of_Names (s := u) hnames
    obtain ⟨-, -, rfl, -⟩ := hnames
    exact ⟨fun hphase => congrArg _ (htake.trans (if_pos hphase)), fun hphase => congrArg _ (htake.trans (if_neg hphase))⟩

/-! ### PIECE_ANNOUNCE and TRACK_INSERT -/

/-- The passes that whole nine-byte groups carry are those that give the groups back. -/
theorem flatMap_bytes_passesOfBytes (n : Nat) {bs : List Byte} (h : bs.length = 9 * n) :
    (passesOfBytes bs).flatMap PassEntry.bytes = bs ∧ (passesOfBytes bs).length = n := by
  induction n generalizing bs with
  | zero =>
    obtain rfl := List.length_eq_zero_iff.1 h
    exact ⟨rfl, rfl⟩
  | succ n ih =>
    obtain ⟨e1, e2, fs, v1, v2, f1, f2, t1, t2, rest, rfl⟩ : ∃ e1 e2 fs v1 v2 f1 f2 t1 t2 rest,
        bs = e1 :: e2 :: fs :: v1 :: v2 :: f1 :: f2 :: t1 :: t2 :: rest := by
      match bs, h with
      | e1 :: e2 :: fs :: v1 :: v2 :: f1 :: f2 :: t1 :: t2 :: rest, _ => exact ⟨e1, e2, fs, v1, v2, f1, f2, t1, t2, rest, rfl⟩
    obtain ⟨hbytes, hlen⟩ := ih (bs := rest) (by simp only [List.length_cons] at h; omega)
    refine ⟨?_, by simp only [passesOfBytes, List.length_cons, hlen]⟩
    simp only [passesOfBytes, List.flatMap_cons, hbytes, PassEntry.bytes, Laws.bytes16_half, List.cons_append, List.nil_append]

/-- Bytes that carry a piece record are the record's bytes. -/
theorem bytes_of_pieceRecordOfBytes {bs : List Byte} {r : PieceRecord} (h : pieceRecordOfBytes bs = some r) :
    bs = r.bytes ∧ r.passes.length ≤ 255 := by
  unfold pieceRecordOfBytes at h
  split at h
  · rename_i t1 t2 n b1 b2 rest
    split at h
    · rename_i hlen
      obtain ⟨hbytes, hcount⟩ := flatMap_bytes_passesOfBytes n.toNat hlen
      obtain rfl := Option.some.inj h
      have hn := n.isLt
      refine ⟨?_, by rw [hcount]; omega⟩
      simp only [PieceRecord.bytes, hcount, hbytes, Laws.bytes16_half, byteOf, BitVec.ofNat_toNat, BitVec.setWidth_eq,
        List.cons_append, List.nil_append]
    · cases h
  · cases h

/-- The command with the record its arguments carry. -/
def hostPiece (announce : Bool) (r : PieceRecord) (s : State) : State := if announce then s.pieceAnnounce r else s.trackInsert r

theorem exec_pieceCommand_bytes (announce : Bool) {r : PieceRecord} (hreset : s.host.softResetDue = false) (hn : r.passes.length ≤ 255) :
    exec (pieceCommand announce r.bytes) s = .next (hostPiece announce r s.opened) := by
  have hr := Laws.pieceRecordOfBytes_bytes r hn
  cases announce with
  | true =>
    show execPieceAnnounce r.bytes s = _
    simp only [execPieceAnnounce, hr, command_of_lengthOk hreset rfl]
    rfl
  | false =>
    show execTrackInsert r.bytes s = _
    simp only [execTrackInsert, hr, command_of_lengthOk hreset rfl]
    rfl

theorem exec_pieceCommand_of_badLength (announce : Bool) {args : List Byte} (hreset : s.host.softResetDue = false)
    (h : ∀ r : PieceRecord, r.passes.length ≤ 255 → args ≠ r.bytes) :
    exec (pieceCommand announce args) s = .next (s.answered .badLength []) := by
  have hnone : pieceRecordOfBytes args = none := by
    cases hr : pieceRecordOfBytes args with
    | none => rfl
    | some r =>
      obtain ⟨hargs, hn⟩ := bytes_of_pieceRecordOfBytes hr
      exact absurd hargs (h r hn)
  cases announce with
  | true =>
    show execPieceAnnounce args s = _
    simp only [execPieceAnnounce, hnone, command_of_badLength hreset Bool.false_ne_true]
  | false =>
    show execTrackInsert args s = _
    simp only [execTrackInsert, hnone, command_of_badLength hreset Bool.false_ne_true]

theorem hostPiece_of_not_entry {announce : Bool} {r : PieceRecord} (ha : announce = true) (hpos : s.station.position ≠ 0) :
    hostPiece announce r s = s.refuse .wrongRole := by
  subst ha
  exact if_pos (mt (role_eq_entry_iff s).1 hpos)

/-- What PIECE_ANNOUNCE and TRACK_INSERT give with the record: where the piece comes from, and the telegram that tells the train. -/
theorem hostPiece_of_entry {announce : Bool} {r : PieceRecord} (hpos : announce = true → s.station.position = 0) : hostPiece announce r s =
    match s.station.config with
    | some c =>
      if s.station.state = .running then
        s.insertPiece c (if announce then .bus else .manual) (if announce then some (.pieceEntry r) else none) r
      else s.refuse .wrongState
    | none => s.refuse .wrongState := by
  cases announce with
  | true => exact if_neg (not_not.2 ((role_eq_entry_iff s).2 (hpos rfl)))
  | false => rfl

theorem hostPiece_of_not_running {announce : Bool} {r : PieceRecord} (hpos : announce = true → s.station.position = 0)
    (hstate : s.station.state ≠ .running) : hostPiece announce r s = s.refuse .wrongState := by
  rw [hostPiece_of_entry hpos]
  simp only [if_neg hstate]
  split <;> rfl

theorem hostPiece_of_runs {announce : Bool} {r : PieceRecord} (hpos : announce = true → s.station.position = 0) (hr : s.Runs c) :
    hostPiece announce r s =
      s.insertPiece c (if announce then .bus else .manual) (if announce then some (.pieceEntry r) else none) r := by
  rw [hostPiece_of_entry hpos]
  simp only [hr.config, if_pos hr.running]

variable {origin : Origin} {queued : Option Telegram} {r : PieceRecord}

theorem insertPiece_of_invalid {f : RecordFailure} (h : checkRecord c.trainSize.toNat r = some f) :
    s.insertPiece c origin queued r = s.refuseRecord r.tag (.malformed f) := by
  simp only [State.insertPiece, ConfigRecord.n, h]

theorem insertPiece_of_error {why : RefuseReason} (h : checkRecord c.trainSize.toNat r = none)
    (hcreate : s.createEntry (announcedEntry c s.station.position origin r) = .error why) :
    s.insertPiece c origin queued r = s.refuseRecord r.tag why := by
  have hcreate' : s.createEntry (newEntry c s.station.position origin r) = .error why := hcreate
  simp only [State.insertPiece, ConfigRecord.n, h, hcreate']

theorem insertPiece_of_ok {u : State} (h : checkRecord c.trainSize.toNat r = none)
    (hcreate : s.createEntry (announcedEntry c s.station.position origin r) = .ok u) : s.insertPiece c origin queued r =
    State.respond .ok [] (match queued with
      | some t => (u.raiseAdded (announcedEntry c s.station.position origin r)).queueTelegram t
      | none => u.raiseAdded (announcedEntry c s.station.position origin r)) := by
  have hcreate' : s.createEntry (newEntry c s.station.position origin r) = .ok u := hcreate
  simp only [State.insertPiece, ConfigRecord.n, h, hcreate']
  rfl

/-- Settles O20: for either command its tests in turn, those before met. -/
theorem hostPieceRecordsAreTestedInOrder : Obligations.HostPieceRecordsAreTestedInOrder := by
  intro announce s hreset
  refine ⟨fun args h => exec_pieceCommand_of_badLength announce hreset h, fun r hn => ?_⟩
  rw [exec_pieceCommand_bytes announce hreset hn]
  refine ⟨fun ha hpos => ?_, fun hpos hstate => ?_, fun c hpos hr => ?_⟩
  · exact congrArg _ (hostPiece_of_not_entry (s := s.opened) ha hpos)
  · exact congrArg _ (hostPiece_of_not_running (s := s.opened) hpos hstate)
  · rw [hostPiece_of_runs (s := s.opened) hpos (⟨hr.running, hr.config⟩ : s.opened.Runs c)]
    refine ⟨fun f hf => ?_, fun hvalid hknown => ?_, fun hvalid hnew hfull hnone => ?_⟩
    · rw [insertPiece_of_invalid hf]
      rfl
    · rw [insertPiece_of_error hvalid (createEntry_of_known (s := s.opened) hknown)]
      rfl
    · have hcreate := createEntry_of_makeRoom (s := s.opened) (e := announcedEntry c s.opened.station.position
        (if announce then .bus else .manual) r) hnew
      rw [makeRoom_of_full (s := s.opened) hfull hnone] at hcreate
      rw [insertPiece_of_error hvalid hcreate]
      rfl

/-- Settles O21: the entry created, PIECE_ADDED raised, and the train told by PIECE_ANNOUNCE alone. -/
theorem hostPieceRecordsCreateAnEntry : Obligations.HostPieceRecordsCreateAnEntry := by
  intro announce c r s hreset hr hpos hn hvalid hnew origin new told
  have hcreate := createEntry_of_makeRoom (s := s.opened) (e := new) hnew
  have hinsert : exec (pieceCommand announce r.bytes) s =
      .next (s.opened.insertPiece c origin (if announce then some (.pieceEntry r) else none) r) := by
    rw [exec_pieceCommand_bytes announce hreset hn,
      hostPiece_of_runs (s := s.opened) hpos (⟨hr.running, hr.config⟩ : s.opened.Runs c)]
  have htold {u : State} (h : s.opened.createEntry new = .ok u) :
      s.opened.insertPiece c origin (if announce then some (.pieceEntry r) else none) r = told (u.raiseAdded new) := by
    rw [insertPiece_of_ok hvalid h]
    cases announce <;> rfl
  rw [hinsert]
  refine ⟨fun hroom => ?_, fun k e hfull hold => ?_⟩
  · rw [makeRoom_of_room (s := s.opened) hroom] at hcreate
    rw [htold hcreate, raiseAdded_append]
    rfl
  · rw [makeRoom_of_Oldest (s := s.opened) hfull hold] at hcreate
    rw [htold hcreate, raiseAdded_append, ← length_eraseIdx_of_Oldest hold]
    rfl

end Sys2Proof.Proofs

/-! Bites of the neighbours (04 Sections 4.5 and 4.7): the upstream one that makes an entry approach, and the downstream one that confirms
an entry, with what the looper and the trim make of the confirmation (07 R128, R129; 08 R147, R149). -/

namespace Sys2Proof.Proofs

open Sys2Proof.Machine

variable {c : ConfigRecord} {src : Fin 10} {seq : Byte} {s : State} {k : Nat} {e : Entry} {t : Half}

/-! ### The in-stand entry (R56, R61) -/

theorem isInStand_eq_false {e : Entry} (h : ¬ (e.phase = .inStand ∨ e.phase = .tailApproaching)) : e.isInStand = false :=
  Bool.eq_false_iff.2 (mt (Laws.isInStand_iff e).1 h)

theorem inStandSlot_of_InStandIs (h : s.InStandIs k e) : s.inStandSlot = some k := by
  obtain ⟨hat, hstand, hfirst⟩ := h
  exact (Laws.oldest_eq_some s _ k).2
    ⟨e, hat, (Laws.isInStand_iff e).2 hstand, fun j hj f hf => isInStand_eq_false (hfirst j hj f hf)⟩

theorem inStand?_of_InStandIs (h : s.InStandIs k e) : s.inStand? = some e := by
  obtain ⟨hat, hstand, hfirst⟩ := h
  obtain ⟨hk, he⟩ := List.getElem?_eq_some_iff.1 hat
  refine List.find?_eq_some_iff_getElem.2 ⟨(Laws.isInStand_iff e).2 hstand, k, hk, he, fun j hj => ?_⟩
  rw [isInStand_eq_false (hfirst j hj _ (List.getElem?_eq_getElem (by omega)))]
  rfl

theorem inStand?_eq_none (h : ∀ e ∈ s.table, e.phase ≠ .inStand ∧ e.phase ≠ .tailApproaching) : s.inStand? = none :=
  List.find?_eq_none.2 fun e he => by
    simp [isInStand_eq_false fun hs => hs.elim (h e he).1 (h e he).2]

theorem requestFlag_of_InStandIs (h : s.InStandIs k e) (f : EntryFlags → EntryFlags) :
    s.requestFlag f = { s with table := s.table.set k { e with flags := f e.flags, age := 0 } } := by
  unfold State.requestFlag
  rw [inStandSlot_of_InStandIs h]
  exact Laws.writeEntry_eq s k e _ h.1

/-! ### A HEAD_BITE is sorted by its source (Table 4.3) -/

theorem exec_headBite {tag speed : Half} {anonymous : Bool} (hs : s.Hears src seq) (hr : s.Runs c) :
    exec (.headBiteReceived src seq tag anonymous speed) s = .next ((s.accepted src seq).takeHeadBite c src tag anonymous speed) :=
  (exec_received_of_hears (.headBite tag anonymous speed) hs).trans (congrArg _ (whenRunning_of_runs (accepted_runs hr)))

theorem takeHeadBite_of_upstream {tag speed : Half} {anonymous : Bool} (h : s.isUpstream src = true) :
    s.takeHeadBite c src tag anonymous speed = s.takeUpstreamBite src (takenTag anonymous tag) := if_pos h

theorem takeHeadBite_of_downstream {tag speed : Half} {anonymous : Bool} (hup : s.isUpstream src = false) (h : s.isDownstream src = true) :
    s.takeHeadBite c src tag anonymous speed = s.takeDownstreamBite c src (takenTag anonymous tag) speed :=
  (if_neg (by simp [hup])).trans (if_pos h)

theorem takeHeadBite_of_neither {tag speed : Half} {anonymous : Bool} (hup : s.isUpstream src = false) (h : s.isDownstream src = false) :
    s.takeHeadBite c src tag anonymous speed = s :=
  (if_neg (by simp [hup])).trans (if_neg (by simp [h]))

/-! ### The upstream bite (R66) -/

theorem passOver_eq_passedOver (k : Nat) (s : State) : s.passOver k = s.passedOver k := rfl

theorem moved_eq_afterAdvance (o : Origin) : o.afterAdvance = o.moved := by cases o <;> rfl

/-- The entry that the tag names, once the older ANNOUNCED ones have left. -/
theorem passedOver_slotAfter (h : s.table[k]? = some e) : (s.passedOver k).table[s.slotAfter k]? = some e := by
  rw [← passOver_eq_passedOver, passOver_split h, State.slotAfter, List.getElem?_append_right le_rfl, Nat.sub_self]
  rfl

theorem takeUpstreamBite_of_Unknown (h : s.Unknown t) : s.takeUpstreamBite src t = s.frameUnexpected 4 src 0 t := by
  simp only [State.takeUpstreamBite, slotOfTag_of_Unknown h]
  rfl

theorem takeUpstreamBite_of_Names (h : s.Names t k e) : s.takeUpstreamBite src t =
    if e.phase = .announced then (s.passedOver k).writeEntry (s.slotAfter k) (Entry.advance .approaching)
    else (s.refreshed k).frameUnexpected 4 src 1 t := by
  have hslot := slotOfTag_of_Names h
  rw [← refreshTag_of_Names h, ← passOver_eq_passedOver]
  simp only [State.takeUpstreamBite, hslot, h.2.1, slotOfTag_passOver hslot]
  rfl

/-- Settles O24: the entry that the tag names, its phase, and the ANNOUNCED entries ahead of it given up first. -/
theorem upstreamBiteMakesTheEntryApproach : Obligations.UpstreamBiteMakesTheEntryApproach := by
  intro c src seq tag speed anonymous s hs hr t u i
  have hexec : exec i s = .next (u.takeHeadBite c src tag anonymous speed) := exec_headBite hs hr
  rw [hexec]
  refine ⟨fun hup hdown => congrArg _ (takeHeadBite_of_neither (s := u) hup hdown), fun hup => ?_⟩
  rw [takeHeadBite_of_upstream (s := u) hup]
  refine ⟨fun hnew => congrArg _ (takeUpstreamBite_of_Unknown (s := u) hnew), fun k e hnames => ?_⟩
  have htake := takeUpstreamBite_of_Names (s := u) (src := src) hnames
  refine ⟨fun hphase => congrArg _ (htake.trans (if_neg hphase)), fun hphase => congrArg _ (htake.trans ((if_pos hphase).trans ?_))⟩
  refine (Laws.writeEntry_eq (u.passedOver k) (u.slotAfter k) e _ (passedOver_slotAfter hnames.2.1)).trans ?_
  rw [← moved_eq_afterAdvance]
  rfl

/-! ### The confirmation by the downstream bite (R73, R74) -/

theorem mismatch_eq (a b : Half) : decide (a ≠ 0 ∧ b ≠ 0 ∧ a ≠ b) = (a != 0 && b != 0 && a != b) := by
  rw [Bool.eq_iff_iff]
  simp [and_assoc]

/-- The entry at slot k confirmed, as the statements write it. -/
theorem confirmEntry_eq (h : s.table[k]? = some e) (speed : Half) : s.confirmEntry c k e t speed = s.headConfirmed c k e t speed := by
  obtain ⟨hk, -⟩ := List.getElem?_eq_some_iff.1 h
  unfold State.confirmEntry State.headConfirmed
  extract_lets mismatch v w x mismatch' flags f v' w' x'
  have hdecide : decide mismatch = mismatch' := mismatch_eq e.tag t
  have hmismatch : mismatch ↔ mismatch' = true := by rw [← hdecide, decide_eq_true_iff]
  have hv : v = v' := by
    rw [show v = _ from Laws.writeEntry_eq s k e _ h, hdecide]
  have hw : w = w' := by
    dsimp only [w, w']
    rw [hv]
    exact if_congr hmismatch rfl rfl
  have hstand : w.stand = s.stand := by
    dsimp only [w]
    split <;> rfl
  have hx : x = x' := by
    dsimp only [x, x']
    rw [← hw, hstand]
    cases e.downstream with
    | pending => cases e.biteStamp <;> rfl
    | _ => rfl
  have htable : x'.table[k]? = some f := by
    have hset : (s.table.set k f)[k]? = some f := List.getElem?_set_self hk
    have hw' : w'.table = s.table.set k f := by
      dsimp only [w']
      split <;> rfl
    have hx' : x'.table = w'.table := by
      dsimp only [x']
      split
      · rfl
      · split <;> rfl
    rw [hx', hw', hset]
  rw [hx, htable]
  exact if_congr (Laws.isInStand_iff e) rfl rfl

/-! ### Which entry a downstream bite confirms (R73) -/

theorem awaiting_eq_false {e : Entry} (h : ¬ e.awaits) : e.downstream.awaiting = false :=
  Bool.eq_false_iff.2 (mt (Laws.awaiting_iff _).1 h)

theorem takeBiteByOrder_of_Oldest {speed : Half} (h : s.Oldest Entry.awaits k e) :
    s.takeBiteByOrder c src t speed = s.headConfirmed c k e t speed := by
  obtain ⟨hat, hwaits, hfirst⟩ := h
  have hslot : (s.oldest fun e => e.downstream.awaiting) = some k := (Laws.oldest_eq_some s _ k).2
    ⟨e, hat, (Laws.awaiting_iff _).2 hwaits, fun j hj f hf => awaiting_eq_false (hfirst j hj f hf)⟩
  rw [← confirmEntry_eq hat]
  simp only [State.takeBiteByOrder, hslot, hat]

theorem takeBiteByOrder_of_none {speed : Half} (h : ∀ e ∈ s.table, ¬ e.awaits) :
    s.takeBiteByOrder c src t speed = s.frameUnexpected 4 src 4 t := by
  have hslot : (s.oldest fun e => e.downstream.awaiting) = none :=
    (Laws.oldest_eq_none s _).2 fun e he => awaiting_eq_false (h e he)
  simp only [State.takeBiteByOrder, hslot]
  rfl

theorem refreshed_getElem? (s : State) (k j : Nat) :
    (s.refreshed k).table[j]? = s.table[j]?.map fun e => if k = j then { e with age := 0 } else e := by
  unfold State.refreshed
  rw [List.getElem?_modify]
  by_cases h : k = j <;> simp [h]

/-- Starting an age again is nothing to a property that does not speak of ages. -/
theorem oldest_refreshed {p : Entry → Prop} (hp : ∀ e : Entry, p { e with age := 0 } ↔ p e) {i : Nat} (hne : i ≠ k) (h : s.Oldest p k e) :
    (s.refreshed i).Oldest p k e := by
  obtain ⟨hat, hpe, hfirst⟩ := h
  refine ⟨by rw [refreshed_getElem?, hat]; simp [hne], hpe, fun j hj f hf => ?_⟩
  rw [refreshed_getElem?] at hf
  obtain ⟨g, hg, rfl⟩ := Option.map_eq_some_iff.1 hf
  have := hfirst j hj g hg
  split
  · rwa [hp]
  · exact this

theorem forall_mem_refreshed {p : Entry → Prop} (hp : ∀ e : Entry, p { e with age := 0 } ↔ p e) (i : Nat) (h : ∀ e ∈ s.table, p e) :
    ∀ e ∈ (s.refreshed i).table, p e := by
  intro e he
  obtain ⟨j, hj⟩ := List.mem_iff_getElem?.1 he
  rw [refreshed_getElem?] at hj
  obtain ⟨g, hg, rfl⟩ := Option.map_eq_some_iff.1 hj
  have := h g (List.mem_of_getElem? hg)
  split
  · rwa [hp]
  · exact this

theorem touched_of_Unknown (h : s.Unknown t) : s.touched t = s := by
  rw [← refreshTag_eq_touched]
  unfold State.refreshTag
  rw [slotOfTag_of_Unknown h]

theorem touched_of_Names (h : s.Names t k e) : s.touched t = s.refreshed k := by
  rw [← refreshTag_eq_touched, refreshTag_of_Names h]

/-- The status of the entry that the tag names decides what the bite is to it. -/
theorem takeDownstreamBite_of_Names {speed : Half} (h : s.Names t k e) : s.takeDownstreamBite c src t speed =
    match e.downstream with
    | .pending | .inWindow | .untimed | .unconfirmed => s.headConfirmed c k e t speed
    | .lost => (s.refreshed k).raise .biteTooLate t 0
    | .confirmed => (s.refreshed k).frameUnexpected 4 src 1 t
    | .noHead => (s.touched t).takeBiteByOrder c src t speed := by
  rw [← confirmEntry_eq h.2.1, touched_of_Names h, ← refreshTag_of_Names h]
  simp only [State.takeDownstreamBite, slotOfTag_of_Names h, h.2.1]
  rfl

/-- A bite whose tag names no entry, or one that has no head, is matched by order. -/
theorem takeDownstreamBite_by_order {speed : Half} (h : s.Unknown t ∨ ∃ k e, s.Names t k e ∧ e.downstream = .noHead) :
    s.takeDownstreamBite c src t speed = (s.touched t).takeBiteByOrder c src t speed := by
  obtain h | ⟨k, e, h, hstatus⟩ := h
  · rw [touched_of_Unknown h]
    simp only [State.takeDownstreamBite, slotOfTag_of_Unknown h]
  · rw [takeDownstreamBite_of_Names h]
    simp only [hstatus]

theorem touched_Oldest_awaits (h : s.Unknown t ∨ ∃ k e, s.Names t k e ∧ e.downstream = .noHead) (hold : s.Oldest Entry.awaits k e) :
    (s.touched t).Oldest Entry.awaits k e := by
  obtain h | ⟨i, f, h, hstatus⟩ := h
  · rwa [touched_of_Unknown h]
  · rw [touched_of_Names h]
    refine oldest_refreshed (fun _ => Iff.rfl) ?_ hold
    rintro rfl
    obtain rfl : f = e := Option.some.inj (h.2.1.symm.trans hold.1)
    have hwaits := hold.2.1
    simp [Entry.awaits, hstatus] at hwaits

theorem touched_forall_not_awaits (h : s.Unknown t ∨ ∃ k e, s.Names t k e ∧ e.downstream = .noHead) (hnone : ∀ e ∈ s.table, ¬ e.awaits) :
    ∀ e ∈ (s.touched t).table, ¬ e.awaits := by
  obtain h | ⟨i, f, h, -⟩ := h
  · rwa [touched_of_Unknown h]
  · rw [touched_of_Names h]
    exact forall_mem_refreshed (fun _ => Iff.rfl) i hnone

/-- Settles O25: by the tag where it names an entry that has a head, by order where it does not. -/
theorem downstreamBiteIsMatchedInOrder : Obligations.DownstreamBiteIsMatchedInOrder := by
  intro c src seq tag speed anonymous s hs hr hup hdown t u i
  have hexec : exec i s = .next (u.takeDownstreamBite c src t speed) := by
    rw [← takeHeadBite_of_downstream (s := u) hup hdown]
    exact exec_headBite hs hr
  rw [hexec]
  refine ⟨fun k e hnames => ?named, fun horder => ?order⟩
  case named =>
    have htake := takeDownstreamBite_of_Names (c := c) (src := src) (s := u) (speed := speed) hnames
    refine ⟨fun hwaits => congrArg _ (htake.trans ?_), fun hlost => congrArg _ (htake.trans ?_),
      fun hconfirmed => congrArg _ (htake.trans ?_)⟩
    · obtain h | h | h | h := hwaits <;> rw [h]
    · rw [hlost]
    · rw [hconfirmed]
  case order =>
    have htake := takeDownstreamBite_by_order (c := c) (src := src) (s := u) (speed := speed) horder
    exact ⟨fun k e hold => congrArg _ (htake.trans (takeBiteByOrder_of_Oldest (touched_Oldest_awaits (s := u) horder hold))),
      fun hnone => congrArg _ (htake.trans (takeBiteByOrder_of_none (touched_forall_not_awaits (s := u) horder hnone)))⟩

end Sys2Proof.Proofs

/-! The trim calculator (Chapter 8): the matching speed, the target, what the telegrams of the downstream neighbour do, and the step; and
what looper and trim make of a confirmation (07 R128, R129; 08 R149). -/

namespace Sys2Proof.Proofs

open Sys2Proof.Machine

variable {c : ConfigRecord} {src : Fin 10} {seq : Byte} {s : State} {k : Nat} {e : Entry} {t : Half}

/-! ### The matching speed (R146) -/

/-- Settles O31: the quotient by twice the denominator, characterised by the two inequalities of a floor. -/
theorem matchingSpeedIsTheRoundedQuotient : Obligations.MatchingSpeedIsTheRoundedQuotient := by
  intro vd hd sd hOwn sOwn v hpos
  have hden : 0 < hOwn * (1000 + sOwn) := Nat.mul_pos hpos (by omega)
  unfold matchingSpeed
  have hnum : ((vd * hd * (1000 + sd) : Nat) : Int) = vd * hd * (1000 + sd) := by push_cast; rfl
  have hdenom : ((hOwn * (1000 + sOwn) : Nat) : Int) = hOwn * (1000 + sOwn) := by push_cast; rfl
  rw [← hnum, ← hdenom]
  generalize vd * hd * (1000 + sd) = num
  generalize hOwn * (1000 + sOwn) = den at hden
  have htwice : v * (2 * den) = 2 * (v * den) := by ring
  have hlow : (2 * v - 1 : Int) * den = 2 * ((v * den : Nat) : Int) - den := by push_cast; ring
  have hhigh : (2 * v + 1 : Int) * den = 2 * ((v * den : Nat) : Int) + den := by push_cast; ring
  rw [Nat.div_eq_iff (by omega), htwice, hlow, hhigh]
  generalize v * den = p
  omega

/-! ### The target (R147) -/

theorem clampTrim_of_high {lim : Nat} {raw : Int} (h : (lim : Int) < raw) : clampTrim lim raw = ((lim : Int), some 0) := if_pos h

theorem clampTrim_of_low {lim : Nat} {raw : Int} (h : raw < -(lim : Int)) : clampTrim lim raw = (-(lim : Int), some 1) := by
  unfold clampTrim
  rw [if_neg (by omega), if_pos h]

theorem clampTrim_of_between {lim : Nat} {raw : Int} (hlow : -(lim : Int) ≤ raw) (hhigh : raw ≤ lim) :
    clampTrim lim raw = (raw, none) := by
  unfold clampTrim
  rw [if_neg (by omega), if_neg (by omega)]

theorem trimLimitOf_lt (c : ConfigRecord) (own : PassEntry) : trimLimitOf c own < 2 ^ 15 := by
  have hspeed := own.speedRef.isLt
  have hlimit := c.trimLimit.isLt
  have hprod : own.speedRef.toNat * c.trimLimit.toNat ≤ 65535 * 255 := Nat.mul_le_mul (by omega) (by omega)
  unfold trimLimitOf
  omega

/-- The detail of TRIM_SATURATED: the side and the limit. -/
theorem saturated_detail (side : BitVec 1) {lim : Nat} (h : lim < 2 ^ 15) : (side ++ BitVec.ofNat 15 lim : BitVec 16) =
    (if side = 0 then 0 else 0x8000) + BitVec.ofInt 16 lim := by
  apply BitVec.eq_of_toNat_eq
  have hside : side = 0 ∨ side = 1 := by revert side; decide
  rw [BitVec.toNat_append, ← Nat.shiftLeft_add_eq_or_of_lt (BitVec.isLt _), BitVec.ofInt_natCast]
  obtain rfl | rfl := hside
  · simp; omega
  · simp; omega

/-- A target clamped on one side: reported where the saturation flag was clear. -/
theorem saturated_report (v : State) (was : Bool) (tag : Half) (detail detail' : Half) (hdetail : detail = detail') {out : Prop}
    [Decidable out] (hout : out) :
    (if was = true then v else v.raise .trimSaturated tag detail) = if out ∧ was = false then v.raise .trimSaturated tag detail' else v := by
  subst hdetail
  cases was <;> simp [hout]

theorem track_eq_tracked {own down : PassEntry} (hown : e.ownPass = some own) (hdown : e.downPass = some down) (vd : Half) :
    s.track c e vd = s.tracked c e.tag own down vd := by
  have hlim : ((own.speedRef.toNat * c.trimLimit.toNat / 1000 : Int)) = (trimLimitOf c own : Int) := by simp [trimLimitOf]
  have hlt := trimLimitOf_lt c own
  have hraw : ((matchingSpeed vd.toNat down.exitThickness.toNat down.forwardSlip.toNat own.exitThickness.toNat
    own.forwardSlip.toNat : Int) - own.speedRef.toNat) = rawTrim own down vd.toNat := rfl
  unfold State.track State.retarget State.tracked
  simp only [hown, hdown, hlim, hraw]
  generalize rawTrim own down vd.toNat = raw
  generalize trimLimitOf c own = lim at hlt
  by_cases hhigh : (lim : Int) < raw
  · have hout : raw < -(lim : Int) ∨ (lim : Int) < raw := .inr hhigh
    have htarget : max (-(lim : Int)) (min (lim : Int) raw) = lim := by omega
    simp only [clampTrim_of_high hhigh, htarget, decide_eq_true hout, if_pos hhigh]
    exact saturated_report _ _ _ _ _ ((saturated_detail 0 hlt).trans (by simp)) hout
  · by_cases hlow : raw < -(lim : Int)
    · have hout : raw < -(lim : Int) ∨ (lim : Int) < raw := .inl hlow
      have htarget : max (-(lim : Int)) (min (lim : Int) raw) = -lim := by omega
      simp only [clampTrim_of_low hlow, htarget, decide_eq_true hout, if_neg hhigh]
      exact saturated_report _ _ _ _ _ ((saturated_detail 1 hlt).trans (by simp)) hout
    · have hin : ¬ (raw < -(lim : Int) ∨ (lim : Int) < raw) := by omega
      have htarget : max (-(lim : Int)) (min (lim : Int) raw) = raw := by omega
      simp only [clampTrim_of_between (not_lt.1 hlow) (not_lt.1 hhigh), htarget, hin, false_and, if_false]
      rfl

/-! ### The step (R148, R155) -/

theorem stepToward_of_near {step : Nat} {target current : Int} (h : target - current ≤ step) (h' : current - target ≤ step) :
    stepToward step target current = target := if_pos (by omega)

theorem stepToward_of_below {step : Nat} {target current : Int} (h : (step : Int) < target - current) :
    stepToward step target current = current + step := by
  unfold stepToward
  rw [if_neg (by omega), if_pos (by omega)]

theorem stepToward_of_above {step : Nat} {target current : Int} (h : (step : Int) < current - target) :
    stepToward step target current = current - step := by
  unfold stepToward
  rw [if_neg (by omega), if_neg (by omega)]

/-- In motion the current trim goes to what the step gives, and a ramp-out that comes to 0 ends. -/
theorem stepTrim_of_moving (h : s.trim.state ≠ .off) : s.stepTrim c =
    let current := stepToward c.trimStep.toNat s.trim.target s.trim.current
    if s.trim.state = .rampOut ∧ current = 0 then { s with trim := { s.trim with state := .off, current := 0 } }
    else { s with trim := { s.trim with current := current } } := by
  unfold State.stepTrim
  cases hs : s.trim.state with
  | off => exact absurd hs h
  | tracking => simp [hs]
  | held => simp [hs]
  | rampOut => simp [hs]

/-- Settles O57: the step toward the target by its distance, and the ramp-out whose target is 0. -/
theorem sampleStepsTheTrim : Obligations.SampleStepsTheTrim := by
  intro c s step moved
  refine ⟨fun hoff => by simp only [State.stepTrim, hoff], fun hmoving => ?_⟩
  have hstate : s.trim.state ≠ .off := by
    obtain h | h | ⟨h, -⟩ := hmoving <;> simp [h]
  have hramp (h : s.trim.state = .rampOut) : s.trim.target = 0 := by
    obtain h' | h' | ⟨-, h'⟩ := hmoving
    · simp [h] at h'
    · simp [h] at h'
    · exact h'
  rw [stepTrim_of_moving hstate]
  refine ⟨fun hup hdown => ?near, fun hpos hup => ?below, fun hpos hdown => ?above⟩
  case near =>
    rw [stepToward_of_near hup hdown]
    by_cases h : s.trim.state = .rampOut
    · simp [h, hramp h]
    · simp [h, moved]
  case below =>
    rw [stepToward_of_below hup]
    refine if_neg fun ⟨h, hzero⟩ => ?_
    have := hramp h
    omega
  case above =>
    rw [stepToward_of_above hdown]
    refine if_neg fun ⟨h, hzero⟩ => ?_
    have := hramp h
    omega

/-! ### Looper and trim at a confirmation (07 R128, R129; 08 R149) -/

theorem hasLooper_of_Trims (h : s.Trims c) : s.hasLooper c = true := (hasLooper_iff c s).2 h

theorem hasLooper_of_not_Trims (h : ¬ s.Trims c) : s.hasLooper c = false := Bool.eq_false_iff.2 (mt (hasLooper_iff c s).1 h)

/-- The conditions of R149 on a station that has them all but the window. -/
theorem trimMayStart_iff (e : Entry) (vd : Half) : trimMayStart e vd = true ↔ e.window.isSome = true ∧ e.flags.tagMismatch = false ∧
    e.verification ≠ .suspect ∧ e.flags.trimFaultHeld = false ∧ 100 ≤ vd.toNat := by
  simp only [trimMayStart, Bool.and_eq_true, Bool.not_eq_true', bne_iff_ne, decide_eq_true_eq, and_assoc]
  rfl

theorem trimConfirmed_of_starts {vd : Half} (htrims : s.Trims c) (hoff : s.trim.state = .off) (h : trimMayStart e vd = true) :
    s.trimConfirmed c e vd = State.track c e vd { s with trim := { s.trim with saturated := false } } :=
  if_pos ⟨hasLooper_of_Trims htrims, hoff, h⟩

theorem trimConfirmed_of_not {vd : Half} (h : ¬ (s.Trims c ∧ s.trim.state = .off ∧ trimMayStart e vd = true)) :
    s.trimConfirmed c e vd = s :=
  if_neg fun ⟨htrims, hoff, hstart⟩ => h ⟨(hasLooper_iff c s).1 htrims, hoff, hstart⟩

theorem looperConfirmed_of_Trims (h : s.Trims c) : s.looperConfirmed c e =
    match s.looper.state with
    | .parked | .armed =>
      if e.window.isSome then { s with looper := s.looper.lift c e.tag }
      else State.unsupervise e.tag 1 { s with looper := { s.looper with state := .parked } }
    | .lowering =>
      if e.window.isSome then
        State.requestFlag (fun f => { f with lateLift := true }) { s with looper := { s.looper with liftPending := true } }
      else s
    | .holdOff => s.unsupervise e.tag 0
    | .lifting _ | .regulating => s := if_pos (hasLooper_of_Trims h)

theorem unsupervise_of_InStandIs {tag why : Half} (h : s.InStandIs k e) : s.unsupervise tag why =
    State.raise .unsupervised tag why
      { s with table := s.table.set k { e with flags := { e.flags with unsupervised := true }, age := 0 } } := by
  unfold State.unsupervise
  rw [requestFlag_of_InStandIs h]

/-- Settles O26: the looper by its state and the pass window, the trim by the conditions of R149. -/
theorem confirmationReachesLooperAndTrim : Obligations.ConfirmationReachesLooperAndTrim := by
  refine ⟨fun c k e s hin => ⟨fun hnot => ?_, fun htrims => ⟨fun hstate => ⟨fun hw => ?_, fun hw => ?_⟩,
      fun hstate => ⟨fun hw => ?_, fun hw => ?_⟩, fun hstate => ?_⟩⟩,
    fun c e own down w vd s hw hown hdown => ⟨fun htrims hoff htag hver hheld hspeed => ?starts, fun hnot => ?stays⟩,
    fun c e vd s hw => ?windowless⟩
  · exact if_neg (by simp [hasLooper_of_not_Trims hnot])
  · rw [looperConfirmed_of_Trims htrims]
    obtain h | h := hstate <;> rw [h] <;> exact if_pos hw
  · rw [looperConfirmed_of_Trims htrims]
    have hlift : ¬ e.window.isSome = true := by simp [hw]
    have hparks := unsupervise_of_InStandIs (s := { s with looper := { s.looper with state := .parked } }) (tag := e.tag) (why := 1) hin
    obtain h | h := hstate <;> rw [h] <;> exact (if_neg hlift).trans hparks
  · rw [looperConfirmed_of_Trims htrims, hstate]
    simp only [hw, if_true]
    exact requestFlag_of_InStandIs (s := { s with looper := { s.looper with liftPending := true } }) hin _
  · rw [looperConfirmed_of_Trims htrims, hstate]
    simp only [hw, Option.isSome_none, Bool.false_eq_true, if_false]
  · rw [looperConfirmed_of_Trims htrims, hstate]
    exact unsupervise_of_InStandIs hin
  case starts =>
    have hstart := (trimMayStart_iff e vd).2 ⟨by simp [hw], htag, hver, hheld, hspeed⟩
    rw [trimConfirmed_of_starts htrims hoff hstart]
    exact track_eq_tracked (by simp [Entry.ownPass, hw, hown]) (by simp [Entry.downPass, hw, hdown]) vd
  case stays =>
    refine trimConfirmed_of_not fun ⟨htrims, hoff, hstart⟩ => ?_
    obtain ⟨-, htag, hver, hheld, hspeed⟩ := (trimMayStart_iff e vd).1 hstart
    obtain h | h | h | h | h | h := hnot
    · exact h htrims
    · exact h hoff
    · simp [htag] at h
    · exact hver h
    · simp [hheld] at h
    · omega
  case windowless =>
    refine trimConfirmed_of_not fun ⟨_, _, hstart⟩ => ?_
    have := ((trimMayStart_iff e vd).1 hstart).1
    simp [hw] at this

/-! ### SPEED_REPORT and HANDOFF_FAULT (R150, R152, R153) -/

variable {vd : Half} {code : Byte}

theorem exec_speedReport (hs : s.Hears src seq) (hr : s.Runs c) :
    exec (.speedReportReceived src seq t vd) s = .next ((s.accepted src seq).takeSpeedReport c src t vd) :=
  (exec_received_of_hears (.speedReport t vd) hs).trans (congrArg _ (whenRunning_of_runs (accepted_runs hr)))

theorem exec_handoffFault (hs : s.Hears src seq) (hr : s.Runs c) :
    exec (.handoffFaultReceived src seq t code) s = .next ((s.accepted src seq).takeHandoffFault c src t code) :=
  (exec_received_of_hears (.handoffFault t code) hs).trans (congrArg _ (whenRunning_of_runs (accepted_runs hr)))

theorem accepted_trimHears (h : s.TrimHears src t k e) : (s.accepted src seq).TrimHears src t k e := ⟨h.downstream, h.inStand, h.matched⟩

/-- A report for the in-stand entry of a station that trims, by the state of the trim. -/
theorem takeSpeedReport_of_hears (htrims : s.Trims c) (hh : s.TrimHears src t k e) : s.takeSpeedReport c src t vd =
    match s.trim.state with
    | .off | .rampOut => s
    | .tracking => if leastSpeed ≤ vd.toNat then s.track c e vd else s.holdTrim e.tag .speedLow
    | .held => if leastSpeed ≤ vd.toNat ∧ e.flags.trimFaultHeld = false then s.track c e vd else s := by
  simp only [State.takeSpeedReport, inStand?_of_InStandIs hh.inStand]
  exact if_pos ⟨hasLooper_of_Trims htrims, hh.downstream, hh.matched⟩

theorem takeSpeedReport_of_not_hears (h : ¬ s.Trims c ∨ s.isDownstream src = false ∨
    (∀ e ∈ s.table, e.phase ≠ .inStand ∧ e.phase ≠ .tailApproaching) ∨ ∃ k e, s.InStandIs k e ∧ t ≠ e.tag ∧ t ≠ 0) :
    s.takeSpeedReport c src t vd = s := by
  unfold State.takeSpeedReport
  split
  · rfl
  · rename_i e he
    refine if_neg fun ⟨htrims, hdown, htag⟩ => ?_
    obtain h | h | h | ⟨k, f, hin, hne, hzero⟩ := h
    · exact h ((hasLooper_iff c s).1 htrims)
    · simp [h] at hdown
    · simp [inStand?_eq_none h] at he
    · obtain rfl : f = e := Option.some.inj ((inStand?_of_InStandIs hin).symm.trans he)
      exact htag.elim hne hzero

/-- Settles O29: a report that matches, by the trim's state and the speed; any other is let pass. -/
theorem speedReportRetargetsOrHoldsTheTrim : Obligations.SpeedReportRetargetsOrHoldsTheTrim := by
  intro c src seq t vd s hs hr u i
  have hexec : exec i s = .next (u.takeSpeedReport c src t vd) := exec_speedReport hs hr
  have htake {k : Nat} {e : Entry} (htrims : s.Trims c) (hh : s.TrimHears src t k e) :=
    takeSpeedReport_of_hears (s := u) (vd := vd) htrims (accepted_trimHears hh)
  rw [hexec]
  refine ⟨fun k e w own down htrims hh hw hown hdown hspeed hstate => congrArg _ ((htake htrims hh).trans ?tracks),
    fun k e htrims hh => ⟨fun hspeed hstate => congrArg _ ((htake htrims hh).trans ?holds),
      fun h => congrArg _ ((htake htrims hh).trans ?stays)⟩,
    fun h => congrArg _ (takeSpeedReport_of_not_hears (s := u) h)⟩
  case tracks =>
    have htracked : u.track c e vd = u.tracked c e.tag own down vd :=
      track_eq_tracked (by simp [Entry.ownPass, hw, hown]) (by simp [Entry.downPass, hw, hdown]) vd
    obtain h | ⟨h, hheld⟩ := hstate
    · rw [show u.trim.state = .tracking from h]
      exact (if_pos hspeed).trans htracked
    · rw [show u.trim.state = .held from h]
      exact (if_pos ⟨hspeed, hheld⟩).trans htracked
  case holds =>
    rw [show u.trim.state = .tracking from hstate]
    exact if_neg (not_le.2 hspeed)
  case stays =>
    obtain ⟨h, hcause⟩ | h | h := h
    · rw [show u.trim.state = .held from h]
      refine if_neg fun ⟨hspeed, hheld⟩ => ?_
      obtain hlow | hfault := hcause
      · exact absurd hspeed (not_le.2 hlow)
      · simp [hheld] at hfault
    · rw [show u.trim.state = .off from h]
    · rw [show u.trim.state = .rampOut from h]

theorem takeHandoffFault_of_hears (hh : s.TrimHears src t k e) : s.takeHandoffFault c src t code =
    let v : State := { s with table := s.table.set k { e with flags := { e.flags with trimFaultHeld := true }, age := 0 } }
    if s.trim.state = .tracking ∧ s.Trims c then v.holdTrim e.tag (.fault code) else v := by
  simp only [State.takeHandoffFault, inStand?_of_InStandIs hh.inStand, requestFlag_of_InStandIs hh.inStand]
  rw [if_pos ⟨hh.downstream, hh.matched⟩]
  cases hstate : s.trim.state with
  | tracking =>
    simp only [true_and]
    exact if_congr (hasLooper_iff c s) rfl rfl
  | _ => simp

theorem takeHandoffFault_of_not_hears (h : s.isDownstream src = false ∨
    (∀ e ∈ s.table, e.phase ≠ .inStand ∧ e.phase ≠ .tailApproaching) ∨ ∃ k e, s.InStandIs k e ∧ t ≠ e.tag ∧ t ≠ 0) :
    s.takeHandoffFault c src t code = s := by
  unfold State.takeHandoffFault
  split
  · rfl
  · rename_i e he
    refine if_neg fun ⟨hdown, htag⟩ => ?_
    obtain h | h | ⟨k, f, hin, hne, hzero⟩ := h
    · simp [h] at hdown
    · simp [inStand?_eq_none h] at he
    · obtain rfl : f = e := Option.some.inj ((inStand?_of_InStandIs hin).symm.trans he)
      exact htag.elim hne hzero

/-- Settles O30: the flag whatever the trim, the hold of a TRACKING trim of a station that trims. -/
theorem handoffFaultHoldsTheTrim : Obligations.HandoffFaultHoldsTheTrim := by
  intro c src seq t code s hs hr u i
  have hexec : exec i s = .next (u.takeHandoffFault c src t code) := exec_handoffFault hs hr
  rw [hexec]
  refine ⟨fun k e hh => ?_, fun h => congrArg _ (takeHandoffFault_of_not_hears (s := u) h)⟩
  intro marked
  have htake := takeHandoffFault_of_hears (c := c) (s := u) (code := code) (accepted_trimHears hh)
  refine ⟨fun hstate htrims => congrArg _ (htake.trans (if_pos ⟨hstate, htrims⟩)), fun h => congrArg _ (htake.trans (if_neg ?_))⟩
  rintro ⟨hstate, htrims⟩
  exact h.elim (· hstate) (· htrims)

end Sys2Proof.Proofs

/-! Tails of the neighbours (04 Sections 4.5 and 4.7): the upstream one, taken by the in-stand entry or attributed, and the downstream one,
which retires an entry. -/

namespace Sys2Proof.Proofs

open Sys2Proof.Machine

variable {c : ConfigRecord} {src : Fin 10} {seq : Byte} {s : State} {k : Nat} {e : Entry} {t : Half}

/-! ### A TAIL_OUT is sorted by its source (Table 4.3) -/

theorem exec_tailOut {tag : Half} {anonymous : Bool} (hs : s.Hears src seq) (hr : s.Runs c) :
    exec (.tailOutReceived src seq tag anonymous) s = .next ((s.accepted src seq).takeTailOut c src tag anonymous) :=
  (exec_received_of_hears (.tailOut tag anonymous) hs).trans (congrArg _ (whenRunning_of_runs (accepted_runs hr)))

theorem takeTailOut_of_upstream {tag : Half} {anonymous : Bool} (h : s.isUpstream src = true) :
    s.takeTailOut c src tag anonymous = s.takeUpstreamTail c src (takenTag anonymous tag) := if_pos h

theorem takeTailOut_of_downstream {tag : Half} {anonymous : Bool} (hup : s.isUpstream src = false) (h : s.isDownstream src = true) :
    s.takeTailOut c src tag anonymous = s.takeDownstreamTail src (takenTag anonymous tag) :=
  (if_neg (by simp [hup])).trans (if_pos h)

theorem takeTailOut_of_neither {tag : Half} {anonymous : Bool} (hup : s.isUpstream src = false) (h : s.isDownstream src = false) :
    s.takeTailOut c src tag anonymous = s :=
  (if_neg (by simp [hup])).trans (if_neg (by simp [h]))

/-! ### The downstream tail (R75) -/

theorem takeDownstreamTail_of_Names (h : s.Names t k e) : s.takeDownstreamTail src t =
    if e.phase = .cleared then s.retireEntry k e else (s.refreshed k).frameUnexpected 5 src 1 t := by
  rw [← refreshTag_of_Names h]
  simp only [State.takeDownstreamTail, slotOfTag_of_Names h, h.2.1]
  rfl

theorem takeDownstreamTail_of_Oldest (h : s.Unknown t) (hold : s.Oldest (fun e => e.phase = .cleared) k e) :
    s.takeDownstreamTail src t = s.retireEntry k e := by
  simp only [State.takeDownstreamTail, slotOfTag_of_Unknown h, oldest_of_Oldest hold, hold.1]

theorem takeDownstreamTail_of_none (h : s.Unknown t) (hnone : ∀ e ∈ s.table, e.phase ≠ .cleared) :
    s.takeDownstreamTail src t = s.frameUnexpected 5 src 4 t := by
  simp only [State.takeDownstreamTail, slotOfTag_of_Unknown h, oldest_eq_none_of_forall hnone]
  rfl

/-- Settles O28: the entry that the tag names, or the oldest CLEARED one, and its phase. -/
theorem downstreamTailRetiresAClearedEntry : Obligations.DownstreamTailRetiresAClearedEntry := by
  intro c src seq tag anonymous s hs hr t u i
  have hexec : exec i s = .next (u.takeTailOut c src tag anonymous) := exec_tailOut hs hr
  rw [hexec]
  refine ⟨fun hup hdown => congrArg _ (takeTailOut_of_neither (s := u) hup hdown), fun hup hdown => ?_⟩
  rw [takeTailOut_of_downstream (s := u) hup hdown]
  refine ⟨fun k e h hphase => ?_, fun k e hnames hphase => ?_, fun hnew hnone => ?_⟩
  · obtain hnames | ⟨hnew, hold⟩ := h
    · exact congrArg _ ((takeDownstreamTail_of_Names (s := u) hnames).trans (if_pos hphase))
    · exact congrArg _ (takeDownstreamTail_of_Oldest (s := u) hnew hold)
  · exact congrArg _ ((takeDownstreamTail_of_Names (s := u) hnames).trans (if_neg hphase))
  · exact congrArg _ (takeDownstreamTail_of_none (s := u) hnew hnone)

/-! ### The upstream tail, taken by the in-stand entry (R67) -/

theorem tailTaker_of_InStandIs (h : s.InStandIs k e) : s.tailTaker t =
    if e.phase = .inStand ∧ (e.tag = t ∨ s.Unknown t) then some k else none := by
  have hnone : (s.slotOfTag t).isNone = true ↔ s.Unknown t := by rw [Option.isNone_iff_eq_none, Laws.slotOfTag_eq_none]
  simp only [State.tailTaker, inStandSlot_of_InStandIs h, h.1]
  exact if_congr (and_congr_right fun _ => or_congr_right hnone) rfl rfl

theorem InStandIs_of_inStandSlot (h : s.inStandSlot = some k) : ∃ e, s.InStandIs k e := by
  obtain ⟨e, hat, hstand, hfirst⟩ := (Laws.oldest_eq_some s _ k).1 h
  exact ⟨e, hat, (Laws.isInStand_iff e).1 hstand, fun j hj f hf hp =>
    Bool.false_ne_true ((hfirst j hj f hf).symm.trans ((Laws.isInStand_iff f).2 hp))⟩

/-- No entry takes the tail. -/
theorem tailTaker_eq_none (h : ∀ k e, s.InStandIs k e → e.phase = .inStand → e.tag ≠ t ∧ ¬ s.Unknown t) : s.tailTaker t = none := by
  cases hslot : s.inStandSlot with
  | none => simp only [State.tailTaker, hslot]
  | some k =>
    obtain ⟨e, hin⟩ := InStandIs_of_inStandSlot hslot
    rw [tailTaker_of_InStandIs hin]
    exact if_neg fun ⟨hphase, hor⟩ => hor.elim (h k e hin hphase).1 (h k e hin hphase).2

/-- The in-stand entry with the upstream tail, as the statement writes it. -/
theorem withUpstreamTail_eq (c : ConfigRecord) (s : State) (e : Entry) : { s.withUpstreamTail c e with age := 0 } = e.withTailMarks c s := by
  have hexit : s.role = .exit ↔ s.station.position = 9 := by
    rw [State.role, Laws.roleOf_exit]
    exact (BitVec.toNat_eq (y := 9#4)).symm
  unfold State.withUpstreamTail Entry.withTailMarks Entry.advance
  simp only [moved_eq_afterAdvance]
  by_cases h9 : s.station.position = 9
  · rw [if_pos (hexit.2 h9), if_pos h9]
  · rw [if_neg (mt hexit.1 h9), if_neg h9]
    rfl

theorem tailApproaches_eq (h : s.table[k]? = some e) : s.tailApproaches c k =
    State.reportMarks c k (inReportOrder ((e.withTailMarks c s).tailDue s.stand.pulse))
      { s with table := s.table.set k (e.withTailMarks c s) } := by
  obtain ⟨hk, -⟩ := List.getElem?_eq_some_iff.1 h
  have hset : (s.table.set k (e.withTailMarks c s))[k]? = some (e.withTailMarks c s) := List.getElem?_set_self hk
  unfold State.tailApproaches
  simp only [Laws.writeEntry_eq s k e _ h, withUpstreamTail_eq, hset]

/-! ### The upstream tail, attributed to an entry not yet at the stand (R68) -/

theorem tailSeenAt_of_getElem? (h : s.table[k]? = some e) : s.tailSeenAt k = { s with table := s.table.set k (e.withTail s) } := by
  refine (Laws.writeEntry_eq s k e _ h).trans ?_
  simp only [Entry.withTail, ← moved_eq_afterAdvance]
  rfl

theorem passedOver_stand (k : Nat) (s : State) : (s.passedOver k).stand = s.stand :=
  List.foldlRecOn (motive := fun u : State => u.stand = s.stand) _ _ rfl fun _ hu _ _ => hu

theorem withTail_passedOver (k : Nat) (e : Entry) (s : State) : e.withTail (s.passedOver k) = e.withTail s := by
  unfold Entry.withTail
  rw [passedOver_stand]

theorem takeUpstreamTail_of_taken {e : Entry} (hin : s.InStandIs k e) (hphase : e.phase = .inStand) (htag : e.tag = t ∨ s.Unknown t) :
    s.takeUpstreamTail c src t =
      if s.Unknown t then (s.tailApproaches c k).frameUnexpected 5 src 2 t else s.tailApproaches c k := by
  have hnone : (s.slotOfTag t).isNone = true ↔ s.Unknown t := by rw [Option.isNone_iff_eq_none, Laws.slotOfTag_eq_none]
  simp only [State.takeUpstreamTail, tailTaker_of_InStandIs hin, hphase, htag, and_self, if_true]
  exact if_congr hnone rfl rfl

theorem takeUpstreamTail_of_Names (hout : s.tailTaker t = none) (h : s.Names t k e) :
    s.takeUpstreamTail c src t = s.takeNamedTail src t k e := by
  simp only [State.takeUpstreamTail, hout, slotOfTag_of_Names h, h.2.1]

theorem takeUpstreamTail_of_Unknown (hout : s.tailTaker t = none) (h : s.Unknown t) :
    s.takeUpstreamTail c src t = s.takeUnnamedTail src t := by
  simp only [State.takeUpstreamTail, hout, slotOfTag_of_Unknown h]

/-- The tail of the entry that the tag names, by its phase. -/
theorem takeNamedTail_of_Names (h : s.Names t k e) : s.takeNamedTail src t k e =
    match e.phase with
    | .approaching =>
      if e.flags.tailSeen then (s.refreshed k).frameUnexpected 5 src 1 t else { s with table := s.table.set k (e.withTail s) }
    | .announced => State.frameUnexpected 5 src 3 t
        { (s.passedOver k) with table := (s.passedOver k).table.set (s.slotAfter k) (e.withTail s) }
    | .inStand | .tailApproaching | .cleared => (s.refreshed k).frameUnexpected 5 src 1 t := by
  rw [← refreshTag_of_Names h, ← tailSeenAt_of_getElem? h.2.1, ← withTail_passedOver k e s,
    ← tailSeenAt_of_getElem? (passedOver_slotAfter h.2.1), ← passOver_eq_passedOver]
  simp only [State.takeNamedTail, slotOfTag_passOver (slotOfTag_of_Names h)]
  rfl

theorem takeUnnamedTail_of_none (h : ∀ e ∈ s.table, e.phase ≠ .approaching) :
    s.takeUnnamedTail src t = s.frameUnexpected 5 src 4 t := by
  simp only [State.takeUnnamedTail, oldest_eq_none_of_forall h]
  rfl

theorem takeUnnamedTail_of_Oldest (h : s.Oldest (fun e => e.phase = .approaching) k e) : s.takeUnnamedTail src t =
    if e.flags.tailSeen then (s.refreshed k).frameUnexpected 5 src 1 t
    else State.frameUnexpected 5 src 2 t { s with table := s.table.set k (e.withTail s) } := by
  rw [← tailSeenAt_of_getElem? h.1]
  simp only [State.takeUnnamedTail, oldest_of_Oldest h, h.1]
  rfl

/-- Settles O27: the in-stand entry first; else the entry that the tag names, or the oldest APPROACHING one. -/
theorem upstreamTailIsTakenOrAttributed : Obligations.UpstreamTailIsTakenOrAttributed := by
  intro c src seq tag anonymous s hs hr hup t u i
  have hexec : exec i s = .next (u.takeUpstreamTail c src t) := by
    rw [← takeTailOut_of_upstream (s := u) hup]
    exact exec_tailOut hs hr
  rw [hexec]
  refine ⟨fun k e hin hphase htag => ?taken, fun hout => ⟨fun k e hnames => ?named, fun hnew => ?unnamed⟩⟩
  case taken =>
    intro f v
    have htake := takeUpstreamTail_of_taken (c := c) (src := src) (s := u) hin hphase htag
    have hv : u.tailApproaches c k = v := tailApproaches_eq (s := u) hin.1
    rw [hv] at htake
    exact ⟨fun hnew => congrArg _ (htake.trans (if_pos hnew)), fun hknown => congrArg _ (htake.trans (if_neg hknown))⟩
  case named =>
    have htake := (takeUpstreamTail_of_Names (c := c) (src := src) (s := u) (tailTaker_eq_none (s := u) hout) hnames).trans
      (takeNamedTail_of_Names (s := u) hnames)
    rw [htake]
    refine ⟨fun hphase hseen => ?_, fun hphase => ?_, fun h => ?_⟩
    · rw [hphase]
      exact congrArg _ (if_neg (by simp [hseen]))
    · rw [hphase]
      rfl
    · obtain h | h | h | ⟨h, hseen⟩ := h <;> rw [h]
      exact congrArg _ (if_pos hseen)
  case unnamed =>
    rw [takeUpstreamTail_of_Unknown (s := u) (tailTaker_eq_none (s := u) hout) hnew]
    refine ⟨fun hnone => congrArg _ (takeUnnamedTail_of_none (s := u) hnone), fun k e hold => ?_⟩
    have htake := takeUnnamedTail_of_Oldest (src := src) (t := t) (s := u) hold
    exact ⟨fun hseen => congrArg _ (htake.trans (if_pos hseen)), fun hseen => congrArg _ (htake.trans (if_neg (by simp [hseen])))⟩

end Sys2Proof.Proofs

/-! Train stop and resume (Chapter 9): the two telegrams, and the two commands. -/

namespace Sys2Proof.Proofs

open Sys2Proof.Machine

variable {c : ConfigRecord} {src : Fin 10} {seq level cause : Byte} {s : State}

/-! ### The telegrams (R162, R166) -/

theorem whenRunning_of_not_running {take : ConfigRecord → State → State} (h : s.station.state ≠ .running) : s.whenRunning take = s := by
  unfold State.whenRunning
  split
  · exact if_neg h
  · rfl

theorem takeStop_of_runs (hr : s.Runs c) : s.takeStop src level cause =
    if (1 ≤ level.toNat ∧ level.toNat ≤ 7) ∧ c.stopThreshold.toNat ≤ level.toNat then
      s.stopped.raise .stopActed 0 (half level (BitVec.ofNat 4 src.val ++ cause.setWidth 4 : BitVec 8))
    else s.raise .stopIgnored 0 (half level (BitVec.ofNat 4 src.val ++ cause.setWidth 4 : BitVec 8)) := by
  simp only [State.takeStop, State.whenRunning, hr.config, hr.running, if_true, enterStopped_eq_stopped, within_iff]
  rfl

theorem takeResume_of_stopped (h : s.station.state = .stopped) (p : BitVec 4) : s.takeResume p =
    if s.detector.state = .unloaded then
      State.raise .resumed 0 (p.setWidth 16) { s with station := { s.station with state := .running } }
    else s.raise .resumeRefused 0 (half (p.setWidth 8) s.detector.state.code) := if_pos h

theorem takeResume_of_not_stopped (h : s.station.state ≠ .stopped) (p : BitVec 4) : s.takeResume p = s := if_neg h

theorem nibble_setWidth (src : Fin 10) {n : Nat} (hn : 4 ≤ n) : (BitVec.ofNat 4 src.val).setWidth n = BitVec.ofNat n src.val := by
  have hsrc := src.isLt
  have hn16 : 2 ^ 4 ≤ 2 ^ n := Nat.pow_le_pow_right (by omega) hn
  apply BitVec.eq_of_toNat_eq
  rw [BitVec.toNat_setWidth, BitVec.toNat_ofNat, BitVec.toNat_ofNat, Nat.mod_eq_of_lt (by omega : src.val < 2 ^ 4)]

/-- A telegram of the train that changes nothing in this state. -/
theorem dispatched_eq_self {t : Telegram} {take : State → State} (ht : t.dispatched src s =
    if s.station.state = .linking ∨ s.station.state = .running ∨ s.station.state = .stopped then take s else s) (h : take s = s) :
    t.dispatched src s = s := by
  rw [ht]
  split
  · exact h
  · rfl

/-! ### The commands (R159, R161, R165) -/

theorem execTrainStop_byte (h : s.host.softResetDue = false) (level : Byte) :
    exec (.trainStop [level]) s = .next (s.opened.stopCommand level) :=
  congrArg Host.Outcome.next (command_of_lengthOk h rfl _)

theorem execTrainResume_nil (h : s.host.softResetDue = false) : exec (.trainResume []) s = .next s.opened.resumeCommand :=
  congrArg Host.Outcome.next (command_nil h State.resumeCommand)

theorem stopCommand_of_taken (h : s.station.state = .running ∨ s.station.state = .stopped) : s.stopCommand level =
    if within level.toNat 1 7 = true then (s.originateStop level 0).respond .ok [] else s.refuse .badArgument :=
  if_neg (not_not.2 ((Laws.runningOrStopped_iff s).2 h))

theorem stopCommand_of_not_taken (h : ¬ (s.station.state = .running ∨ s.station.state = .stopped)) :
    s.stopCommand level = s.refuse .wrongState :=
  if_pos (mt (Laws.runningOrStopped_iff s).1 h)

theorem originateStop_of_running (h : s.station.state = .running) : s.originateStop level 0 =
    (s.queueTelegram (.trainStop level 0)).stopped.raise .stopActed 0 (half level (s.station.position ++ (0 : BitVec 4) : BitVec 8)) := by
  unfold State.originateStop State.takeOwnStop
  rw [Laws.queueTelegram_station, if_pos h, enterStopped_eq_stopped]
  rfl

theorem originateStop_of_not_running (h : s.station.state ≠ .running) :
    s.originateStop level 0 = s.queueTelegram (.trainStop level 0) := by
  unfold State.originateStop State.takeOwnStop
  rw [Laws.queueTelegram_station, if_neg h]

/-- Settles O32: the telegram by its level against the threshold, the command by the station state and the level. -/
theorem trainStopStopsARunningStation : Obligations.TrainStopStopsARunningStation := by
  refine ⟨fun src seq level cause s hs => ?telegram, fun level s hreset => ?command⟩
  case telegram =>
    intro u detail
    have hexec := exec_received_of_hears (.trainStop level cause) hs
    refine ⟨fun c hr => ?_, fun hstate => hexec.trans (congrArg _ ?_)⟩
    · have htake : exec (.trainStopReceived src seq level cause) s = .next (u.takeStop src level cause) :=
        hexec.trans (congrArg _ (if_pos (.inr (.inl hr.running))))
      rw [htake, takeStop_of_runs (s := u) (accepted_runs hr)]
      refine ⟨fun h1 h7 hthreshold => congrArg _ (if_pos ⟨⟨h1, h7⟩, hthreshold⟩), fun h => congrArg _ (if_neg ?_)⟩
      omega
    · exact dispatched_eq_self (take := fun s => s.takeStop src level cause) rfl (whenRunning_of_not_running (s := u) hstate)
  case command =>
    intro v
    rw [execTrainStop_byte hreset]
    have hrange (h1 : 1 ≤ level.toNat) (h7 : level.toNat ≤ 7) := (within_iff level.toNat 1 7).2 ⟨h1, h7⟩
    refine ⟨fun h1 h7 hstate => ?_, fun h1 h7 hstate => ?_, fun hlevel hstate => ?_, fun hrun hstop => ?_⟩
    · rw [stopCommand_of_taken (s := s.opened) (.inl hstate), if_pos (hrange h1 h7), originateStop_of_running (s := s.opened) hstate]
      rfl
    · rw [stopCommand_of_taken (s := s.opened) (.inr hstate), if_pos (hrange h1 h7),
        originateStop_of_not_running (s := s.opened) (by simp [hstate])]
    · rw [stopCommand_of_taken (s := s.opened) hstate, if_neg (by rw [within_iff]; omega), opened_refuse]
    · rw [stopCommand_of_not_taken (s := s.opened) (not_or.2 ⟨hrun, hstop⟩), opened_refuse]

theorem resumeCommand_of_taken (h : s.station.state = .running ∨ s.station.state = .stopped) : s.resumeCommand =
    ((s.queueTelegram .trainResume).takeResume s.station.position).respond .ok [] :=
  if_pos ((Laws.runningOrStopped_iff s).2 h)

theorem resumeCommand_of_not_taken (h : ¬ (s.station.state = .running ∨ s.station.state = .stopped)) :
    s.resumeCommand = s.refuse .wrongState :=
  if_neg (mt (Laws.runningOrStopped_iff s).1 h)

/-- Settles O33: the resume by the station state and the detector, for the telegram and for the command. -/
theorem resumeNeedsAnUnloadedDetector : Obligations.ResumeNeedsAnUnloadedDetector := by
  refine ⟨fun src seq s hs => ?telegram, fun s hreset => ?command⟩
  case telegram =>
    intro u
    have hexec := exec_received_of_hears .trainResume hs
    have htake (hstate : s.station.state = .stopped) :
        exec (.trainResumeReceived src seq) s = .next (u.takeResume (BitVec.ofNat 4 src.val)) :=
      hexec.trans (congrArg _ (if_pos (.inr (.inr hstate))))
    refine ⟨fun hstate hun => ?_, fun hstate hload => ?_, fun hstate => hexec.trans (congrArg _ ?_)⟩
    · rw [htake hstate, takeResume_of_stopped (s := u) hstate, nibble_setWidth src (n := 16) (by omega)]
      exact congrArg _ (if_pos hun)
    · rw [htake hstate, takeResume_of_stopped (s := u) hstate, nibble_setWidth src (n := 8) (by omega)]
      exact congrArg _ (if_neg hload)
    · exact dispatched_eq_self (take := fun s => s.takeResume (BitVec.ofNat 4 src.val)) rfl (takeResume_of_not_stopped (s := u) hstate _)
  case command =>
    intro v
    rw [execTrainResume_nil hreset]
    have hv : v.station = s.station := Laws.queueTelegram_station _ _
    have hd : v.detector = s.detector := Laws.queueTelegram_detector _ _
    refine ⟨fun hstate hun => ?_, fun hstate hload => ?_, fun hstate => ?_, fun hrun hstop => ?_⟩
    · rw [resumeCommand_of_taken (s := s.opened) (.inr hstate), takeResume_of_stopped (s := v) (by rw [hv, hstate]),
        if_pos (by rw [hd, hun]), hv]
      rfl
    · rw [resumeCommand_of_taken (s := s.opened) (.inr hstate), takeResume_of_stopped (s := v) (by rw [hv, hstate]),
        if_neg (by rw [hd]; exact hload), hd]
      rfl
    · rw [resumeCommand_of_taken (s := s.opened) (.inl hstate), takeResume_of_not_stopped (s := v) (by simp [hv, hstate])]
    · rw [resumeCommand_of_not_taken (s := s.opened) (not_or.2 ⟨hrun, hstop⟩), opened_refuse]

end Sys2Proof.Proofs

/-! What the host reads and clears (Chapter 10, Sections 11.4 and 11.5): events, fault flags and lines, status, counters, entries. -/

namespace Sys2Proof.Proofs

open Sys2Proof.Machine

variable {s : State}

/-! ### Bits of flag words (R176) -/

theorem and_ne_zero_iff {w : Nat} (x y : BitVec w) : x &&& y ≠ 0 ↔ ∃ i, x.getLsbD i = true ∧ y.getLsbD i = true := by
  constructor
  · intro h
    by_contra hno
    refine h (BitVec.eq_of_getLsbD_eq fun i hi => ?_)
    rw [BitVec.getLsbD_and, show (0 : BitVec w) = 0#w from rfl, BitVec.getLsbD_zero, ← Bool.not_eq_true, Bool.and_eq_true]
    exact fun hboth => hno ⟨i, hboth⟩
  · rintro ⟨i, hx, hy⟩ hzero
    have hbit := congrArg (fun z => z.getLsbD i) hzero
    rw [show (0 : BitVec w) = 0#w from rfl] at hbit
    simp [hx, hy] at hbit

/-- A flag that stands while p does. -/
theorem standing_bit (p : Prop) [Decidable p] {n : Nat} (hn : n < 16) (i : Nat) :
    (if p then BitVec.twoPow 16 n else (0 : Half)).getLsbD i = decide (p ∧ i = n) := by
  by_cases hp : p
  · rw [if_pos hp, BitVec.getLsbD_twoPow]
    simp [hp, hn, eq_comm]
  · rw [if_neg hp, show (0 : Half) = 0#16 from rfl, BitVec.getLsbD_zero]
    simp [hp]

theorem faultFlags_bit (s : State) (i : Nat) : s.faultFlags.getLsbD i = (s.host.latched.getLsbD i ||
    decide (s.station.state = .stopped ∧ i = 8) || decide (s.station.state = .faulted ∧ i = 9) ||
    decide (s.bus.state = .silent ∧ i = 10)) := by
  have hlatched : (s.host.latched.setWidth 16).getLsbD i = s.host.latched.getLsbD i := by
    rw [BitVec.getLsbD_setWidth]
    by_cases hi : i < 16
    · simp [hi]
    · simp [hi, BitVec.getLsbD_of_ge s.host.latched i (by omega)]
  unfold State.faultFlags
  rw [BitVec.getLsbD_or, BitVec.getLsbD_or, BitVec.getLsbD_or, hlatched, show (0x100 : Half) = BitVec.twoPow 16 8 from rfl,
    show (0x200 : Half) = BitVec.twoPow 16 9 from rfl, show (0x400 : Half) = BitVec.twoPow 16 10 from rfl,
    standing_bit _ (by omega), standing_bit _ (by omega), standing_bit _ (by omega)]

theorem latched_bit_of_ge (s : State) {i : Nat} (h : 8 ≤ i) : s.host.latched.getLsbD i = false := BitVec.getLsbD_of_ge _ i h

theorem cls_le_three (k : EventKind) : k.cls ≤ 3 := by
  unfold EventKind.cls
  split
  · omega
  · split
    · omega
    · split <;> omega

theorem irqAsserted_iff (s : State) : s.irqAsserted = true ↔ ∃ e ∈ s.host.events, e.kind.cls ≤ s.irqThreshold := by
  simp [State.irqAsserted]

theorem faultAsserted_iff (s : State) :
    s.faultAsserted = true ↔ ∃ i, s.faultFlags.getLsbD i = true ∧ s.faultEnables.getLsbD i = true := by
  rw [State.faultAsserted, bne_iff_ne, and_ne_zero_iff]

/-! ### EVENT_READ and FAULT_CLEAR (R174, R176) -/

theorem execEventRead_nil (h : s.host.softResetDue = false) : exec (.eventRead []) s = .next s.opened.readEvent :=
  congrArg Host.Outcome.next (command_nil h State.readEvent)

theorem execFaultClear_bytes (h : s.host.softResetDue = false) (mask : Half) :
    exec (.faultClear (bytes16 mask)) s = .next (s.opened.clearFlags mask) :=
  congrArg Host.Outcome.next (command_bytes16 h mask State.clearFlags)

theorem readEvent_of_cons {e : Event} {rest : List Event} (h : s.host.events = e :: rest) :
    s.readEvent = State.respond .ok e.bytes { s with host := { s.host with reading := .head } } := by
  unfold State.readEvent
  split
  · rename_i hnone
    simp [h] at hnone
  · rename_i f rest' hevents
    obtain ⟨rfl, -⟩ := List.cons.inj (h.symm.trans hevents)
    rfl

theorem high_byte_ne_zero_iff (mask : Half) : mask >>> 8 ≠ 0 ↔ 256 ≤ mask.toNat := by
  have hmask := mask.isLt
  rw [ne_eq, BitVec.toNat_eq, BitVec.toNat_ushiftRight, Nat.shiftRight_eq_div_pow, show (0 : Half).toNat = 0 from rfl]
  omega

theorem names_eventOverflow_iff (mask : Half) :
    (mask.setWidth 8 : Byte) &&& LatchedFlag.eventOverflow.mask ≠ 0 ↔ mask.getLsbD 6 = true := by
  have hbit (i : Nat) : LatchedFlag.eventOverflow.mask.getLsbD i = decide (i = 6) := by
    rw [show LatchedFlag.eventOverflow.mask = BitVec.twoPow 8 6 from rfl, BitVec.getLsbD_twoPow]
    simp [eq_comm]
  simp only [and_ne_zero_iff, hbit, decide_eq_true_eq]
  simp

/-- Settles O38: the reads by the queue, the flags bit by bit. -/
theorem hostReadsEventsAndClearsFlags : Obligations.HostReadsEventsAndClearsFlags := by
  refine ⟨⟨fun s hreset => ?reads, fun s => ?clocked⟩, fun mask s hreset => ?clears, fun f s => rfl, fun s => ?flags⟩
  case reads =>
    rw [execEventRead_nil hreset]
    refine ⟨fun hnone => ?_, fun e rest hevents => ?_⟩
    · simp only [State.readEvent, show s.opened.host.events = [] from hnone]
      rfl
    · intro v
      rw [readEvent_of_cons (s := s.opened) hevents]
      rfl
  case clocked =>
    refine ⟨fun h => ?_, fun h => ?_, fun h => ?_⟩ <;>
      exact (show execEventRecordClockedOut s = _ by simp only [execEventRecordClockedOut, h])
  case clears =>
    rw [execFaultClear_bytes hreset]
    refine ⟨fun hhigh => congrArg _ (if_pos ((high_byte_ne_zero_iff mask).2 hhigh)), fun hlow => ?_⟩
    have hclear : s.opened.clearFlags mask = _ := if_neg (mt (high_byte_ne_zero_iff mask).1 (by omega))
    rw [hclear]
    simp only [if_congr (names_eventOverflow_iff mask) rfl rfl]
    rfl
  case flags =>
    refine ⟨fun i hi => ?_, ?_, ?_, ?_, fun i hi => ?_, fun hnone => ⟨?_, ?_⟩, fun c hc => ⟨?_, ?_⟩⟩
    · have h8 : i ≠ 8 := by omega
      have h9 : i ≠ 9 := by omega
      have h10 : i ≠ 10 := by omega
      simp [faultFlags_bit, h8, h9, h10]
    · rw [faultFlags_bit, latched_bit_of_ge s (by omega)]
      simp
    · rw [faultFlags_bit, latched_bit_of_ge s (by omega)]
      simp
    · rw [faultFlags_bit, latched_bit_of_ge s (by omega)]
      simp
    · have h8 : i ≠ 8 := by omega
      have h9 : i ≠ 9 := by omega
      have h10 : i ≠ 10 := by omega
      simp [faultFlags_bit, h8, h9, h10, latched_bit_of_ge s (by omega : 8 ≤ i)]
    · simp [State.faultAsserted, State.faultEnables, hnone]
    · rw [irqAsserted_iff]
      simp only [State.irqThreshold, hnone, cls_le_three, and_true]
      exact ⟨fun ⟨e, he⟩ => List.ne_nil_of_mem he, List.exists_mem_of_ne_nil _⟩
    · rw [irqAsserted_iff]
      simp only [State.irqThreshold, hc]
    · rw [faultAsserted_iff]
      simp only [State.faultEnables, hc]

end Sys2Proof.Proofs

/-! The records that the host reads (Tables 11.5 and 11.6): status, counters and tracking entries, each field at its offset. -/

namespace Sys2Proof.Proofs

open Sys2Proof.Machine

variable {s : State}

/-! ### Bytes of truth values -/

theorem foldr_bits_testBit (bs : List Bool) (i : Nat) :
    (bs.foldr (fun (b : Bool) n => 2 * n + b.toNat) 0).testBit i = bs.getD i false := by
  induction bs generalizing i with
  | nil => simp
  | cons b bs ih =>
    rw [List.foldr_cons]
    cases i with
    | zero => cases b <;> simp [Nat.testBit_zero]
    | succ i =>
      have hhalf (n : Nat) : (2 * n + b.toNat) / 2 = n := by
        have := b.toNat_lt
        omega
      rw [Nat.testBit_succ, hhalf, ih, List.getD_cons_succ]

/-- Bit i of a byte of truth values is the i-th of them. -/
theorem bitsByte_bit {bs : List Bool} (h : bs.length ≤ 8) (i : Nat) : (bitsByte bs).getLsbD i = bs.getD i false := by
  unfold bitsByte byteOf
  rw [BitVec.getLsbD_ofNat, foldr_bits_testBit]
  by_cases hi : i < 8
  · simp [hi]
  · rw [List.getD_eq_default _ _ (by omega)]
    simp

/-! ### The status record (Table 11.5) -/

theorem lineBytes_eq_lineField (l : Option AcqLine) : lineBytes l = lineField l := by
  cases l with
  | none => rfl
  | some l =>
    have hbyte : (if l.relation = .downstream then (0x80 : Byte) else 0) ||| l.state.code =
        (if l.relation = .downstream then 0x80 else 0) + l.state.code := by
      cases l.relation <;> cases l.state <;> rfl
    simp only [lineBytes, lineField, hbyte]
    rfl

theorem lineField_eq_cons (l : Option AcqLine) : ∃ a b d, lineField l = [a, b, d] := by
  cases l with
  | none => exact ⟨_, _, _, rfl⟩
  | some l => exact ⟨_, _, _, rfl⟩

theorem execStatusRead_nil (h : s.host.softResetDue = false) :
    exec (.statusRead []) s = .next (s.opened.respond .ok s.opened.statusRecord) :=
  congrArg Host.Outcome.next (command_nil h fun s => s.respond .ok s.statusRecord)

theorem execCountersRead_nil (h : s.host.softResetDue = false) : exec (.countersRead []) s = .next s.opened.readCounters :=
  congrArg Host.Outcome.next (command_nil h State.readCounters)

/-- Settles O39: the record cut at the two lines of the acquisition table, whose bytes are the only ones of varying shape. -/
theorem statusAndCountersAreRead : Obligations.StatusAndCountersAreRead := by
  refine ⟨fun s hreset => execStatusRead_nil hreset, fun s => ?record, fun s hreset => execCountersRead_nil hreset, rfl, rfl, rfl, rfl, rfl,
    fun _ _ => rfl, fun _ _ _ _ => rfl, rfl, rfl, rfl⟩
  intro r
  obtain ⟨a, b, d, h0⟩ := lineField_eq_cons s.station.lines[0]?
  obtain ⟨a', b', d', h1⟩ := lineField_eq_cons s.station.lines[1]?
  have hconfig : flagByte s.station.config.isSome = if s.station.config = none then 0 else 1 := by
    cases s.station.config <;> rfl
  have hsaturated : flagByte s.trim.saturated = if s.trim.saturated then 1 else 0 := rfl
  have hcond (i : Nat) := bitsByte_bit (bs := [s.stand.sampleLoss, s.stand.encoderStall]) (by simp) i
  have hlines (i : Nat) := bitsByte_bit (bs := [s.irqAsserted, s.faultAsserted]) (by simp) i
  have hr : r = s.statusRecord := rfl
  clear_value r
  unfold State.statusRecord at hr
  rw [lineBytes_eq_lineField, lineBytes_eq_lineField, h0, h1] at hr
  simp only [bytes16, bytes32, Bus.fills, List.cons_append, List.nil_append] at hr
  subst hr
  refine ⟨rfl, ⟨rfl, rfl, rfl, congrArg some hconfig, fun cause src hfault => ?_, fun hnone => ?_, rfl, ?_⟩,
    ⟨rfl, rfl, rfl, rfl, rfl, hcond, rfl⟩, ⟨rfl, rfl, rfl, rfl, rfl, rfl, rfl, rfl, rfl⟩, rfl, rfl, rfl, rfl, ⟨hlines 0, hlines 1⟩, rfl⟩
  · simp [hfault, byteOf]
  · simp [hnone]
  · rw [h0, h1]
    rfl

/-! ### TRACK_READ, TRACK_FIND and the entry record (R83, Table 11.6) -/

theorem execTrackRead_byte (h : s.host.softResetDue = false) (b : Byte) :
    exec (.trackRead [b]) s = .next (s.opened.trackRead b.toNat) :=
  congrArg Host.Outcome.next (command_of_lengthOk h rfl _)

theorem execTrackFind_bytes (h : s.host.softResetDue = false) (t : Half) :
    exec (.trackFind (bytes16 t)) s = .next (s.opened.trackFind t) :=
  congrArg Host.Outcome.next (command_bytes16 h t State.trackFind)

theorem returnEntry_of_some {k : Nat} {e : Entry} (h : s.table[k]? = some e) :
    s.returnEntry k = s.respond .ok (byteOf k :: byteOf s.table.length :: e.bytes) := by
  simp only [State.returnEntry, h]
  rfl

theorem returnEntry_of_none {k : Nat} (h : s.table[k]? = none) : s.returnEntry k = s.respond .notFound [byteOf s.table.length] := by
  simp only [State.returnEntry, h]
  rfl

theorem byteOf_toNat (b : Byte) : byteOf b.toNat = b := by simp [byteOf]

theorem trackFind_of_absent {t : Half} (h : ∀ e ∈ s.table, e.tag ≠ t) :
    s.trackFind t = s.respond .notFound [byteOf s.table.length] := by
  simp only [State.trackFind, oldest_eq_none_of_forall h]
  rfl

theorem trackFind_of_Oldest {t : Half} {k : Nat} {e : Entry} (h : s.Oldest (fun e => e.tag = t) k e) :
    s.trackFind t = s.respond .ok (byteOf k :: byteOf s.table.length :: e.bytes) := by
  rw [← returnEntry_of_some h.1]
  simp only [State.trackFind, oldest_of_Oldest h]

theorem passBytes_eq_passField (p : Option PassEntry) : passBytes p = passField p := by cases p <;> rfl

theorem passField_eq_cons (p : Option PassEntry) : ∃ b0 b1 b2 b3 b4 b5 b6 b7 b8, passField p = [b0, b1, b2, b3, b4, b5, b6, b7, b8] := by
  cases p with
  | none => exact ⟨_, _, _, _, _, _, _, _, _, rfl⟩
  | some p => exact ⟨_, _, _, _, _, _, _, _, _, rfl⟩

/-- Settles O23: the commands by the slot found, the record cut at its three passes. -/
theorem trackReadsReturnTheEntry : Obligations.TrackReadsReturnTheEntry := by
  refine ⟨fun s hreset => ?commands, fun e => ?record, rfl, rfl, rfl, rfl⟩
  case commands =>
    intro count
    simp only [execTrackRead_byte hreset, execTrackFind_bytes hreset]
    refine ⟨fun b hhigh => congrArg _ (if_pos hhigh), fun b hlow hnone => congrArg _ ((if_neg (by omega)).trans ?_),
      fun b e hlow he => congrArg _ ((if_neg (by omega)).trans ?_), fun t h => congrArg _ (trackFind_of_absent (s := s.opened) h),
      fun t k e h => congrArg _ (trackFind_of_Oldest (s := s.opened) h)⟩
    · exact returnEntry_of_none (s := s.opened) (List.getElem?_eq_none hnone)
    · rw [returnEntry_of_some (s := s.opened) he, byteOf_toNat]
      rfl
  case record =>
    obtain ⟨u0, u1, u2, u3, u4, u5, u6, u7, u8, hup⟩ := passField_eq_cons (e.window.bind PassWindow.up)
    obtain ⟨o0, o1, o2, o3, o4, o5, o6, o7, o8, hown⟩ := passField_eq_cons (e.window.bind PassWindow.own)
    obtain ⟨d0, d1, d2, d3, d4, d5, d6, d7, d8, hdown⟩ := passField_eq_cons (e.window.bind PassWindow.down)
    have hpresence (i : Nat) := bitsByte_bit (bs := [e.barThickness.isSome, (e.window.bind PassWindow.up).isSome,
      (e.window.bind PassWindow.own).isSome, (e.window.bind PassWindow.down).isSome, e.biteStamp.isSome, e.headMarks.isSome,
      e.tailStamp.isSome, e.tailMarks.isSome]) (by simp) i
    have hflags (i : Nat) := bitsByte_bit (bs := [e.flags.tailSeen, e.flags.downstreamGap, e.flags.tagMismatch, e.flags.lateLift,
      e.flags.unsupervised, e.flags.trimFaultHeld]) (by simp) i
    have hreached (i : Nat) := bitsByte_bit (bs := [e.headMarks.any HeadMarks.armReached, e.headMarks.any HeadMarks.lowReached,
      e.headMarks.any HeadMarks.expiryReached, e.tailMarks.any TailMarks.loweringReached,
      e.tailMarks.any TailMarks.overdueReached, e.tailStamp.any TailStamp.void]) (by simp) i
    obtain ⟨r, hr⟩ : ∃ r, r = e.bytes := ⟨_, rfl⟩
    rw [← hr, hup, hown, hdown]
    unfold Entry.bytes at hr
    rw [passBytes_eq_passField, passBytes_eq_passField, passBytes_eq_passField, hup, hown, hdown] at hr
    simp only [bytes16, bytes32, markBytes, List.cons_append, List.nil_append] at hr
    subst hr
    exact ⟨rfl, rfl, rfl, rfl, rfl, rfl, hpresence, rfl, rfl, rfl, rfl, hflags, hreached, rfl, rfl, rfl, rfl, rfl⟩

end Sys2Proof.Proofs

/-! The wire (Section 11.2): a frame as the receiver takes it, and the telegram it carries. -/

namespace Sys2Proof.Proofs

open Sys2Proof.Machine

/-! ### A frame whose bits arrive as they were sent (R46, R47) -/

theorem undisturbed_all_stopBit (bytes : List Byte) : (undisturbed bytes).all RawByte.stopBit = true := by
  simp [undisturbed]

theorem undisturbed_map_value (bytes : List Byte) : (undisturbed bytes).map RawByte.value = bytes := by
  simp [undisturbed, Function.comp_def]

/-- The tests of R46 on a frame whose stop bits are all there, in their order. -/
theorem receiveFrame_undisturbed (s1 s2 h1 h2 h3 : Byte) (rest : List Byte) :
    receiveFrame (undisturbed (s1 :: s2 :: h1 :: h2 :: h3 :: rest)) =
      if s1 ≠ 0x5A ∨ s2 ≠ 0xC3 then .rxFailedReception .sync
      else if 96 < h3.toNat then .rxMalformed .lengthField
      else if rest.length < h3.toNat + 2 then .rxFailedReception .cutShort
      else if h3.toNat + 2 < rest.length then .rxFailedReception .overrun
      else if bytes16 (crc16 ([h1, h2, h3] ++ rest.take h3.toNat)) ≠ rest.drop h3.toNat then .rxFailedReception .check
      else goodFrame h1 h2 (rest.take h3.toNat) := by
  have hall (n : Nat) : ((undisturbed rest).take n).all RawByte.stopBit = true :=
    List.all_eq_true.2 fun r hr => List.all_eq_true.1 (undisturbed_all_stopBit rest) r (List.mem_of_mem_take hr)
  have hlen : (undisturbed rest).length = rest.length := List.length_map _
  show receiveFrame (⟨s1, true⟩ :: ⟨s2, true⟩ :: ⟨h1, true⟩ :: ⟨h2, true⟩ :: ⟨h3, true⟩ :: undisturbed rest) = _
  simp only [receiveFrame, List.all_cons, List.all_nil, Bool.and_true, not_true_eq_false, if_false, hall, hlen, undisturbed_map_value]

/-- A frame of the length it announces, its sync bytes right: the check decides. -/
theorem receiveFrame_of_length {h1 h2 h3 c1 c2 : Byte} {payload : List Byte} (hlen : payload.length = h3.toNat) (h96 : h3.toNat ≤ 96) :
    receiveFrame (undisturbed ([0x5A, 0xC3, h1, h2, h3] ++ payload ++ [c1, c2])) =
      if half c1 c2 = crc16 ([h1, h2, h3] ++ payload) then goodFrame h1 h2 payload else .rxFailedReception .check := by
  have hcheck : bytes16 (crc16 ([h1, h2, h3] ++ payload)) = [c1, c2] ↔ half c1 c2 = crc16 ([h1, h2, h3] ++ payload) := by
    constructor
    · intro h
      have hbytes := Laws.half_bytes (crc16 ([h1, h2, h3] ++ payload))
      obtain ⟨hc1, hrest⟩ := List.cons.inj h
      obtain ⟨hc2, -⟩ := List.cons.inj hrest
      rw [hc1, hc2] at hbytes
      exact hbytes
    · intro h
      rw [← h, Laws.bytes16_half]
  refine (receiveFrame_undisturbed 0x5A 0xC3 h1 h2 h3 (payload ++ [c1, c2])).trans ?_
  rw [if_neg (by simp), if_neg (by omega), if_neg (by simp [hlen]), if_neg (by simp [hlen]), ← hlen, List.take_left', List.drop_left']
  · by_cases h : half c1 c2 = crc16 ([h1, h2, h3] ++ payload)
    · rw [if_neg (not_not.2 (hcheck.2 h)), if_pos h]
    · rw [if_pos (mt hcheck.1 h), if_neg h]
  · rfl
  · rfl

theorem kind_of_header (h : Byte) : (h >>> 4).toNat = h.toNat / 16 := by
  rw [BitVec.toNat_ushiftRight, Nat.shiftRight_eq_div_pow]

theorem source_of_header (h : Byte) : (h &&& 0x0F).toNat = h.toNat % 16 := by
  rw [BitVec.toNat_and]
  exact Nat.and_two_pow_sub_one_eq_mod h.toNat 4

/-- The tests of R47 on an intact frame, in their order. -/
theorem goodFrame_eq (h seq : Byte) (payload : List Byte) : goodFrame h seq payload =
    if h.toNat / 16 = 0 ∨ 9 < h.toNat / 16 then .rxMalformed .kind
    else if hsrc : h.toNat % 16 < 10 then
      match telegramOf (h.toNat / 16) payload with
      | some t => t.received ⟨h.toNat % 16, hsrc⟩ seq
      | none => .rxMalformed .length
    else .rxMalformed .source := by
  unfold goodFrame
  simp only [kind_of_header, source_of_header] <;> rfl

/-! ### The payload of a telegram (Table 11.2) -/

theorem flagByte_bit (b : Bool) : (flagByte b).getLsbD 0 = b := by cases b <;> rfl

/-- The byte of train size and exit present carries both. -/
theorem trainByte_fields (present : Bool) (size : BitVec 4) :
    (((if present then (0x10 : Byte) else 0) ||| size.setWidth 8).setWidth 4 = size) ∧
      ((if present then (0x10 : Byte) else 0) ||| size.setWidth 8).getLsbD 4 = present := by
  cases present <;> revert size <;> decide

theorem heard_setWidth (heard : BitVec 10) : (heard.setWidth 16).setWidth 10 = heard := by
  rw [BitVec.setWidth_setWidth_of_le heard (by omega), BitVec.setWidth_eq]

theorem telegramOf_announce (a : Announce) : telegramOf 1 a.bytes = some (.announce a) := by
  obtain ⟨hsize, hexit⟩ := trainByte_fields a.exitPresent a.trainSize
  have hread : telegramOf 1 a.bytes = some (.announce
      { linking := (flagByte a.linking).getLsbD 0, trainId := half (a.trainId.extractLsb' 8 8) (a.trainId.extractLsb' 0 8)
        trainSize := ((if a.exitPresent then (0x10 : Byte) else 0) ||| a.trainSize.setWidth 8).setWidth 4
        exitPresent := ((if a.exitPresent then (0x10 : Byte) else 0) ||| a.trainSize.setWidth 8).getLsbD 4
        reportPeriod := a.reportPeriod, lUp := half (a.lUp.extractLsb' 8 8) (a.lUp.extractLsb' 0 8)
        lDn := half (a.lDn.extractLsb' 8 8) (a.lDn.extractLsb' 0 8)
        heard := (half ((a.heard.setWidth 16).extractLsb' 8 8) ((a.heard.setWidth 16).extractLsb' 0 8)).setWidth 10 }) := rfl
  rw [hread, flagByte_bit, Laws.half_bytes, Laws.half_bytes, Laws.half_bytes, Laws.half_bytes, hsize, hexit, heard_setWidth]

/-- The payload of a telegram that fits a frame is read back as the telegram. -/
theorem telegramOf_payload (t : Telegram) (h : t.payload.length ≤ 96) : telegramOf t.kind.toNat t.payload = some t := by
  cases t with
  | announce a => exact telegramOf_announce a
  | pieceEntry r =>
    have hlen : r.bytes.length ≤ 96 := h
    rw [Laws.pieceRecord_bytes_length] at hlen
    show (pieceRecordOfBytes r.bytes).map Telegram.pieceEntry = _
    rw [Laws.pieceRecordOfBytes_bytes r (by omega)]
    rfl
  | pieceWithdraw tag => exact congrArg (fun t => some (Telegram.pieceWithdraw t)) (Laws.half_bytes tag)
  | headBite tag anonymous speed =>
    show some (Telegram.headBite (half _ _) ((flagByte anonymous).getLsbD 0) (half _ _)) = _
    rw [Laws.half_bytes, Laws.half_bytes, flagByte_bit]
  | tailOut tag anonymous =>
    show some (Telegram.tailOut (half _ _) ((flagByte anonymous).getLsbD 0)) = _
    rw [Laws.half_bytes, flagByte_bit]
  | speedReport tag speed =>
    show some (Telegram.speedReport (half _ _) (half _ _)) = _
    rw [Laws.half_bytes, Laws.half_bytes]
  | handoffFault tag code =>
    show some (Telegram.handoffFault (half _ _) code) = _
    rw [Laws.half_bytes]
  | trainStop level cause => rfl
  | trainResume => rfl

theorem kind_range (t : Telegram) : 1 ≤ t.kind.toNat ∧ t.kind.toNat ≤ 9 := by
  cases t <;> simp [Telegram.kind]

theorem header_fields (kind src : BitVec 4) :
    (kind ++ src : BitVec 8).toNat / 16 = kind.toNat ∧ (kind ++ src : BitVec 8).toNat % 16 = src.toNat := by
  revert kind src
  decide

theorem receiveFrame_frame (t : Telegram) (src : Fin 10) (seq : Byte) (h : t.payload.length ≤ 96) :
    receiveFrame (undisturbed (t.frame (BitVec.ofNat 4 src.val) seq)) = t.received src seq := by
  have hsrc := src.isLt
  obtain ⟨hkind, hsource⟩ := header_fields t.kind (BitVec.ofNat 4 src.val)
  have hsource' : (t.kind ++ BitVec.ofNat 4 src.val : BitVec 8).toNat % 16 = src.val := by
    rw [hsource, BitVec.toNat_ofNat]
    omega
  have hlen : t.payload.length = (byteOf t.payload.length).toNat := by
    rw [byteOf, BitVec.toNat_ofNat]
    omega
  obtain ⟨h1, h9⟩ := kind_range t
  have hframe := receiveFrame_of_length (h1 := t.kind ++ BitVec.ofNat 4 src.val) (h2 := seq)
    (c1 := (crc16 (t.header (BitVec.ofNat 4 src.val) seq ++ t.payload)).extractLsb' 8 8)
    (c2 := (crc16 (t.header (BitVec.ofNat 4 src.val) seq ++ t.payload)).extractLsb' 0 8) hlen (by omega)
  rw [Laws.half_bytes] at hframe
  refine hframe.trans ((if_pos rfl).trans ?_)
  rw [goodFrame_eq, if_neg (by omega), dif_pos (by omega)]
  simp only [hkind, telegramOf_payload t h, hsource']

/-! ### The two obligations -/

theorem frameBits_eq (frame : List Byte) :
    frameBits frame = frame.flatMap fun b => [false] ++ (List.range 8).map (fun i => b.getLsbD i) ++ [true] := rfl

/-- Settles O13: the frame read back byte for byte, and so bit for bit. -/
theorem undisturbedFrameIsReceivedAsSent : Obligations.UndisturbedFrameIsReceivedAsSent := by
  refine ⟨fun t src seq h => ?_, frameBits_eq, fun s => ⟨fun hnone => ?_, fun a ha => ?_⟩⟩
  · have hframe := receiveFrame_frame t src seq h
    refine ⟨hframe, fun after => ?_⟩
    exact (congrArg receiveFrame (Laws.bytesOfBits_frameBits _ after)).trans hframe
  · simp [State.busDriven, State.busBits, State.busFrame, hnone]
  · simp [State.busDriven, State.busBits, State.busFrame, ha]

theorem receiveFrame_of_short {bs : List RawByte} (h : bs.length < 5) : receiveFrame bs = .rxFailedReception .cutShort := by
  match bs, h with
  | [], _ | [_], _ | [_, _], _ | [_, _, _], _ | [_, _, _, _], _ => rfl

/-- A stop bit missing in a frame of the length it announces. -/
theorem receiveFrame_of_stopBit {h1 h2 h3 c1 c2 : Byte} {payload : List Byte} (hlen : payload.length = h3.toNat) (h96 : h3.toNat ≤ 96)
    {bs : List RawByte} (hvalues : bs.map RawByte.value = [0x5A, 0xC3, h1, h2, h3] ++ payload ++ [c1, c2])
    (hstop : ¬ bs.all RawByte.stopBit = true) : receiveFrame bs = .rxFailedReception .stopBit := by
  obtain ⟨r1, r2, r3, r4, r5, rest, rfl⟩ : ∃ r1 r2 r3 r4 r5 rest, bs = r1 :: r2 :: r3 :: r4 :: r5 :: rest := by
    have hfive : 5 ≤ bs.length := by
      have := congrArg List.length hvalues
      simp at this
      omega
    match bs, hfive with
    | r1 :: r2 :: r3 :: r4 :: r5 :: rest, _ => exact ⟨r1, r2, r3, r4, r5, rest, rfl⟩
  simp only [List.map_cons, List.cons_append, List.nil_append, List.cons.injEq] at hvalues
  obtain ⟨hs1, hs2, -, -, hh3, hrest⟩ := hvalues
  have hcount : rest.length = h3.toNat + 2 := by
    have := congrArg List.length hrest
    simpa [hlen] using this
  unfold receiveFrame
  by_cases hfirst : [r1, r2, r3, r4, r5].all RawByte.stopBit = true
  · have htail : ¬ rest.all RawByte.stopBit = true := by
      intro h
      refine hstop ?_
      rw [show r1 :: r2 :: r3 :: r4 :: r5 :: rest = [r1, r2, r3, r4, r5] ++ rest from rfl, List.all_append, hfirst, h]
      rfl
    have htake : rest.take (h3.toNat + 2) = rest := List.take_of_length_le (by omega)
    simp only [hh3]
    rw [if_neg (not_not.2 hfirst), if_neg (by simp [hs1, hs2]), if_neg (by omega), if_neg (by omega), htake, if_pos htail]
  · exact if_pos hfirst

/-- Bytes that are short, or whose number disagrees with the pass count in them, carry no piece record. -/
theorem pieceRecordOfBytes_of_length {bs : List Byte} (h : bs.length < 5 ∨ bs.length ≠ 5 + 9 * (bs.getD 2 0).toNat) :
    pieceRecordOfBytes bs = none := by
  match bs, h with
  | [], _ | [_], _ | [_, _], _ | [_, _, _], _ | [_, _, _, _], _ => rfl
  | t1 :: t2 :: n :: b1 :: b2 :: rest, h =>
    refine if_neg fun hlen => ?_
    simp only [List.length_cons, List.getD_cons_succ, List.getD_cons_zero] at h
    omega

/-- PIECE_WITHDRAW and TRAIN_STOP have payloads of two bytes. -/
theorem telegramOf_of_not_two {payload : List Byte} (hlen : payload.length ≠ 2) :
    telegramOf 3 payload = none ∧ telegramOf 8 payload = none := by
  match payload, hlen with
  | [], _ | [_], _ | _ :: _ :: _ :: _, _ => exact ⟨rfl, rfl⟩

/-- TAIL_OUT and HANDOFF_FAULT have payloads of three bytes. -/
theorem telegramOf_of_not_three {payload : List Byte} (hlen : payload.length ≠ 3) :
    telegramOf 5 payload = none ∧ telegramOf 7 payload = none := by
  match payload, hlen with
  | [], _ | [_], _ | [_, _], _ | _ :: _ :: _ :: _ :: _, _ => exact ⟨rfl, rfl⟩

/-- A payload whose length is not that of its kind carries no telegram. -/
theorem telegramOf_of_lengthDisagrees {kind : Nat} (h1 : 1 ≤ kind) (h9 : kind ≤ 9) {payload : List Byte}
    (h : lengthDisagrees kind payload) : telegramOf kind payload = none := by
  interval_cases kind
  · have hlen : payload.length ≠ 11 := h
    match payload, hlen with
    | [], _ | [_], _ | [_, _], _ | [_, _, _], _ | [_, _, _, _], _ | [_, _, _, _, _], _ | [_, _, _, _, _, _], _
    | [_, _, _, _, _, _, _], _ | [_, _, _, _, _, _, _, _], _ | [_, _, _, _, _, _, _, _, _], _ | [_, _, _, _, _, _, _, _, _, _], _
    | _ :: _ :: _ :: _ :: _ :: _ :: _ :: _ :: _ :: _ :: _ :: _ :: _, _ => rfl
  · exact congrArg (Option.map Telegram.pieceEntry) (pieceRecordOfBytes_of_length h)
  · exact (telegramOf_of_not_two h).1
  · have hlen : payload.length ≠ 5 := h
    match payload, hlen with
    | [], _ | [_], _ | [_, _], _ | [_, _, _], _ | [_, _, _, _], _ | _ :: _ :: _ :: _ :: _ :: _ :: _, _ => rfl
  · exact (telegramOf_of_not_three h).1
  · have hlen : payload.length ≠ 4 := h
    match payload, hlen with
    | [], _ | [_], _ | [_, _], _ | [_, _, _], _ | _ :: _ :: _ :: _ :: _ :: _, _ => rfl
  · exact (telegramOf_of_not_three h).2
  · exact (telegramOf_of_not_two h).2
  · have hlen : payload.length ≠ 0 := h
    match payload, hlen with
    | _ :: _, _ => rfl

/-- Settles O14: the tests of R46 and R47 in their order, those before passed. -/
theorem damagedOrMalformedFrameIsDiscarded : Obligations.DamagedOrMalformedFrameIsDiscarded := by
  refine ⟨fun bs h => receiveFrame_of_short h, fun h1 h2 h3 rest => ⟨fun hlong => ?_, fun hfits => ⟨fun hshort => ?_, fun hover => ?_⟩,
    fun s1 s2 hsync => ?_⟩, fun h1 h2 h3 c1 c2 payload hlen h96 => ?_⟩
  · rw [receiveFrame_undisturbed, if_neg (by simp), if_pos hlong]
  · rw [receiveFrame_undisturbed, if_neg (by simp), if_neg (by omega), if_pos hshort]
  · rw [receiveFrame_undisturbed, if_neg (by simp), if_neg (by omega), if_neg (by omega), if_pos hover]
  · rw [receiveFrame_undisturbed, if_pos hsync]
  · intro frame
    have hframe : receiveFrame (undisturbed frame) =
        if half c1 c2 = crc16 ([h1, h2, h3] ++ payload) then goodFrame h1 h2 payload else .rxFailedReception .check :=
      receiveFrame_of_length hlen h96
    rw [hframe]
    refine ⟨fun hcheck => if_neg hcheck, fun hcheck hkind => ?_, fun hcheck hk1 hk9 hsrc => ?_, fun hcheck hk1 hk9 hsrc hbad => ?_,
      fun k v hv => ?_⟩
    · rw [if_pos hcheck, goodFrame_eq, if_pos hkind]
    · rw [if_pos hcheck, goodFrame_eq, if_neg (by omega), dif_neg (by omega)]
    · rw [if_pos hcheck, goodFrame_eq, if_neg (by omega), dif_pos (by omega)]
      rw [telegramOf_of_lengthDisagrees hk1 hk9 hbad]
    · obtain ⟨hk, rfl⟩ := List.getElem?_eq_some_iff.1 hv
      refine receiveFrame_of_stopBit (h1 := h1) (h2 := h2) hlen h96 (c1 := c1) (c2 := c2) ?_ ?_
      · rw [List.map_set, undisturbed_map_value]
        refine (congrArg _ ?_).trans (List.set_getElem_self (as := frame) (i := k) (by simpa [undisturbed] using hk))
        simp [undisturbed]
      · rw [Bool.not_eq_true, List.all_eq_false]
        exact ⟨_, List.mem_set hk _, by simp⟩

end Sys2Proof.Proofs

/-! Transactions on the host port (Sections 10.1, 10.2 and 11.4): the command that the bytes are, and what SPI_DO carries. -/

namespace Sys2Proof.Proofs

open Sys2Proof.Machine

variable {s : State}

/-! ### The command that the bytes are (R168, Table 10.1) -/

theorem spiTransaction_cons (code len : Byte) (rest : List Byte) : spiTransaction (code :: len :: rest) =
    if rest.length < len.toNat then .spiTransactionAborted (code :: len :: rest) else hostCommand code (rest.take len.toNat) := rfl

theorem spiTransaction_of_complete (code : Byte) {args : List Byte} (extra : List Byte) (h : args.length < 256) :
    spiTransaction (code :: BitVec.ofNat 8 args.length :: (args ++ extra)) = hostCommand code args := by
  have hlen : (BitVec.ofNat 8 args.length).toNat = args.length := by
    rw [BitVec.toNat_ofNat]
    omega
  rw [spiTransaction_cons, hlen, if_neg (by simp), List.take_left' rfl]

theorem hostCommand_of_listed {i : Nat} {f : List Byte → Instr} (args : List Byte) (h : hostCommands[i]? = some f) :
    hostCommand (BitVec.ofNat 8 (i + 1)) args = f args := by
  obtain ⟨hi, rfl⟩ := List.getElem?_eq_some_iff.1 h
  have hi' : i < 17 := hi
  interval_cases i <;> rfl

theorem hostCommand_of_unlisted {code : Byte} (args : List Byte) (h : code.toNat = 0 ∨ 17 < code.toNat) :
    hostCommand code args = .unknownCommand code args := by
  unfold hostCommand
  split
  case h_18 => rfl
  all_goals omega

/-- Every host command opens the transaction and then takes its arguments. -/
theorem exec_hostCommand (code : Byte) (args : List Byte) :
    ∃ ok take, ∀ s, exec (hostCommand code args) s = .next (s.command ok take) := by
  unfold hostCommand
  split
  case h_7 =>
    cases h : pieceRecordOfBytes args with
    | none => exact ⟨false, id, fun s => show execPieceAnnounce args s = _ by simp only [execPieceAnnounce, h]⟩
    | some r => exact ⟨true, State.pieceAnnounce r, fun s => show execPieceAnnounce args s = _ by simp only [execPieceAnnounce, h]⟩
  case h_11 =>
    cases h : pieceRecordOfBytes args with
    | none => exact ⟨false, id, fun s => show execTrackInsert args s = _ by simp only [execTrackInsert, h]⟩
    | some r => exact ⟨true, State.trackInsert r, fun s => show execTrackInsert args s = _ by simp only [execTrackInsert, h]⟩
  all_goals exact ⟨_, _, fun s => rfl⟩

/-- The commands of one length test for it first. -/
theorem exec_fixedLength (args : List Byte) (s : State) :
    ∀ p ∈ fixedLengthCommands, ∃ take, exec (p.1 args) s = .next (s.command (args.length == p.2) take) := by
  have hempty : (args.length == 0) = args.isEmpty := by cases args <;> rfl
  simp only [fixedLengthCommands, List.forall_mem_cons, hempty]
  exact ⟨⟨_, rfl⟩, ⟨_, rfl⟩, ⟨_, rfl⟩, ⟨_, rfl⟩, ⟨_, rfl⟩, ⟨_, rfl⟩, ⟨_, rfl⟩, ⟨_, rfl⟩, ⟨_, rfl⟩, ⟨_, rfl⟩, ⟨_, rfl⟩, ⟨_, rfl⟩, ⟨_, rfl⟩,
    ⟨_, rfl⟩, ⟨_, rfl⟩, List.forall_mem_nil _⟩

/-- A wrong argument length is refused before any other test. -/
theorem exec_of_badLength (hreset : s.host.softResetDue = false) {args : List Byte} {p : (List Byte → Instr) × Nat}
    (hp : p ∈ fixedLengthCommands) (hlen : args.length ≠ p.2) : exec (p.1 args) s = .next (s.answered .badLength []) := by
  obtain ⟨take, htake⟩ := exec_fixedLength args s p hp
  rw [htake, command_of_badLength hreset (by simpa using hlen)]

/-! ### SOFT_RESET (R29, R168) -/

theorem openTransaction_of_due (h : s.host.softResetDue = true) : s.openTransaction =
    State.opened { State.atReset s.strap s.stand.encA s.stand.encB with pending := s.pending, freeCount := s.freeCount } := by
  unfold State.openTransaction
  rw [if_pos h]
  rfl

/-- A transaction after SOFT_RESET finds the station reset. -/
theorem command_of_due (h : s.host.softResetDue = true) (ok : Bool) (take : State → State) : s.command ok take =
    State.command ok take
      { State.atReset s.strap s.stand.encA s.stand.encB with pending := s.pending, freeCount := s.freeCount } := by
  rw [Laws.command_eq, Laws.command_eq, openTransaction_of_due h]
  rfl

/-! ### SPI_DO (R168, R181) -/

theorem commandLength_of_complete (code : Byte) {args : List Byte} (extra : List Byte) (h : args.length < 256) :
    commandLength (code :: BitVec.ofNat 8 args.length :: (args ++ extra)) = 2 + args.length := by
  have hlen : (BitVec.ofNat 8 args.length).toNat = args.length := by
    rw [BitVec.toNat_ofNat]
    omega
  show 2 + min (BitVec.ofNat 8 args.length).toNat (args ++ extra).length = _
  rw [hlen, List.length_append]
  omega

/-- A transaction broken off is all command, also with the byte that the host leaves unfinished. -/
theorem commandLength_of_incomplete {sent part : List Byte} (h : incompleteTransaction sent = true) (hpart : part.length ≤ 1) :
    commandLength (sent ++ part) = (sent ++ part).length := by
  match sent, part, hpart with
  | [], [], _ | [], [_], _ | [_], [], _ => rfl
  | [_], [b], _ => simp [commandLength]
  | _ :: len :: args, part, hpart =>
    have hargs : args.length < len.toNat := by simpa [incompleteTransaction] using h
    simp only [List.cons_append, commandLength, List.length_append, List.length_cons]
    omega

theorem spiOut_of_all_command {sent : List Byte} (h : commandLength sent = sent.length) (r : Option Response) :
    spiOut sent r = List.replicate sent.length 0 := by
  simp [spiOut, h]

theorem spiOut_of_complete (code : Byte) {args : List Byte} (extra : List Byte) (h : args.length < 256) (r : Response) :
    spiOut (code :: BitVec.ofNat 8 args.length :: (args ++ extra)) (some r) =
      List.replicate (2 + args.length) 0 ++ (r.status.code :: r.data).take extra.length := by
  unfold spiOut
  rw [commandLength_of_complete code extra h]
  have hrest : (code :: BitVec.ofNat 8 args.length :: (args ++ extra)).length - (2 + args.length) = extra.length := by
    simp only [List.length_cons, List.length_append]
    omega
  rw [hrest]
  rfl

/-! ### Bits on the host port -/

theorem spiByteBits_eq (b : Byte) : spiByteBits b = (List.range 8).map fun i => b.getMsbD i := by
  simp [spiByteBits, List.range_succ, BitVec.getMsbD]

theorem spiBits_eq (bytes : List Byte) : spiBits bytes = bytes.flatMap fun b => (List.range 8).map fun i => b.getMsbD i :=
  congrArg bytes.flatMap (funext spiByteBits_eq)

theorem spiBits_replicate (n : Nat) : spiBits (List.replicate n 0) = List.replicate (8 * n) false := by
  induction n with
  | zero => rfl
  | succ n ih =>
    rw [List.replicate_succ, show spiBits (0 :: List.replicate n 0) = List.replicate 8 false ++ spiBits (List.replicate n 0) from rfl, ih,
      List.replicate_append_replicate]
    congr 1
    omega

theorem spiBits_append (xs ys : List Byte) : spiBits (xs ++ ys) = spiBits xs ++ spiBits ys := List.flatMap_append

theorem spiBits_length (bytes : List Byte) : (spiBits bytes).length = 8 * bytes.length := by
  induction bytes with
  | nil => rfl
  | cons b bs ih =>
    rw [show spiBits (b :: bs) = spiByteBits b ++ spiBits bs from rfl, List.length_append, ih, List.length_cons]
    show 8 + _ = _
    omega

/-- The bits of the first bytes are the first bits. -/
theorem spiBits_take (bytes : List Byte) {m n : Nat} (h : n ≤ 8 * m) : (spiBits (bytes.take m)).take n = (spiBits bytes).take n := by
  conv_rhs => rw [← List.take_append_drop m bytes, spiBits_append]
  by_cases hm : m ≤ bytes.length
  · rw [List.take_append_of_le_length (by rw [spiBits_length, List.length_take_of_le hm]; exact h)]
  · rw [List.drop_eq_nil_of_le (by omega)]
    simp [spiBits]

theorem spiBytes_length (line : List Bool) : (spiBytes line).length = line.length / 8 := by
  induction line using spiBytes.induct with
  | case1 b7 b6 b5 b4 b3 b2 b1 b0 line ih =>
    simp only [spiBytes, List.length_cons, ih]
    omega
  | case2 line h =>
    have hshort : line.length < 8 := by
      match line, h with
      | [], _ | [_], _ | [_, _], _ | [_, _, _], _ | [_, _, _, _], _ | [_, _, _, _, _], _ | [_, _, _, _, _, _], _
      | [_, _, _, _, _, _, _], _ => simp
      | _ :: _ :: _ :: _ :: _ :: _ :: _ :: _ :: _, h => exact (h _ _ _ _ _ _ _ _ _ rfl).elim
    rw [Laws.spiBytes_part line hshort]
    simp
    omega

/-- The bytes as they stand on SPI_DO: the whole ones that were sent, and the one the host has begun. -/
theorem spiBytes_padded (sent : List Byte) {part : List Bool} (h : part.length < 8) :
    ∃ x : List Byte, spiBytes (spiBits sent ++ part ++ List.replicate 7 false) = sent ++ x ∧ x.length ≤ 1 ∧ part.length ≤ 8 * x.length := by
  refine ⟨spiBytes (part ++ List.replicate 7 false), by rw [List.append_assoc, Laws.spiBytes_spiBits], ?_⟩
  rw [spiBytes_length, List.length_append, List.length_replicate]
  omega

theorem receiveTransaction_spiBits (sent : List Byte) {part : List Bool} (h : part.length < 8) :
    receiveTransaction (spiBits sent ++ part) = spiTransaction sent := by
  unfold receiveTransaction
  rw [Laws.spiBytes_spiBits, Laws.spiBytes_part part h, List.append_nil]

theorem spiOutput_of_incomplete {sent : List Byte} (h : incompleteTransaction sent = true) (s : State) :
    s.spiOutput sent = List.replicate sent.length 0 :=
  spiOut_of_all_command (by simpa using commandLength_of_incomplete (part := []) h (by simp)) _

theorem spiBitsOutput_of_incomplete {sent : List Byte} {part : List Bool} (hpart : part.length < 8)
    (h : incompleteTransaction sent = true) (s : State) :
    s.spiBitsOutput (spiBits sent ++ part) = List.replicate (spiBits sent ++ part).length false := by
  obtain ⟨x, hx, hone, hlong⟩ := spiBytes_padded sent hpart
  unfold State.spiBitsOutput spiBitsOut
  rw [hx, spiOut_of_all_command (commandLength_of_incomplete h hone), spiBits_replicate, List.take_replicate, List.length_append,
    List.length_append, spiBits_length]
  congr 1
  omega

theorem spiBitsOutput_of_complete (code : Byte) {args : List Byte} (extra : List Byte) {part : List Bool} (hpart : part.length < 8)
    (hargs : args.length < 256) {r : Response} (hr : s.host.response = some r) :
    let line := spiBits (code :: BitVec.ofNat 8 args.length :: (args ++ extra)) ++ part
    s.spiBitsOutput line =
      (List.replicate (8 * (2 + args.length)) false ++ spiBits (r.status.code :: r.data)).take line.length := by
  intro line
  obtain ⟨x, hx, -, hlong⟩ := spiBytes_padded (code :: BitVec.ofNat 8 args.length :: (args ++ extra)) hpart
  have hline : line.length = 8 * (2 + args.length + extra.length) + part.length := by
    simp only [line, List.length_append, spiBits_length, List.length_cons]
    omega
  unfold State.spiBitsOutput spiBitsOut
  rw [hr, hx, List.cons_append, List.cons_append, List.append_assoc, spiOut_of_complete code _ hargs, spiBits_append, spiBits_replicate,
    List.take_append, List.take_append, spiBits_take]
  rw [hline, List.length_replicate, List.length_append]
  omega

/-! ### Assembly -/

/-- Settles O40: the command is read off its length byte; SPI_DO carries whole bytes, cut to the bits that the host clocks. -/
theorem transactionsCarryCommands : Obligations.TransactionsCarryCommands := by
  refine ⟨⟨fun code args extra h => spiTransaction_of_complete code extra h, fun code len args h => if_pos h, rfl, fun _ => rfl,
      fun code args => ⟨fun _ _ h => hostCommand_of_listed args h, fun h => hostCommand_of_unlisted args h⟩⟩, ?_, ?_,
    fun code args extra r s hargs hr => ?_, fun sent s h => spiOutput_of_incomplete h s, fun sent part hpart => ?_, rfl⟩
  · refine fun code args s hreset => ⟨?_, ?_, fun p hp hlen => exec_of_badLength hreset hp hlen, ?_⟩
    · exact congrArg Host.Outcome.next (command_of_lengthOk hreset rfl _)
    · exact congrArg Host.Outcome.next (Laws.openTransaction_eq s hreset)
    · exact congrArg Host.Outcome.next (command_nil hreset _)
  · intro code args s hdue reset
    obtain ⟨ok, take, htake⟩ := exec_hostCommand code args
    refine ⟨?_, congrArg Host.Outcome.next (openTransaction_of_due hdue)⟩
    rw [htake, htake, command_of_due hdue]
  · unfold State.spiOutput
    rw [hr, spiOut_of_complete code extra hargs]
  · simp only [← spiBits_eq]
    refine ⟨receiveTransaction_spiBits sent hpart, fun s h => spiBitsOutput_of_incomplete hpart h s, ?_⟩
    rintro code args extra r s hargs hr rfl
    exact spiBitsOutput_of_complete code extra hpart hargs hr

end Sys2Proof.Proofs

/-! Attempts (Sections 3.3 to 3.5): the slots of an idle line, the telegram that heads the queues, and how an attempt ends. -/

namespace Sys2Proof.Proofs

open Sys2Proof.Machine

variable {s : State} {b : Bus} {cls : TxClass} {q : Queued} {rest : List Queued}

/-! ### The telegram to be sent (R33, R38) -/

theorem head_of_Heads (h : b.Heads cls q rest) : b.head = some (cls, q) := by
  obtain ⟨hq, hempty⟩ := h
  unfold Bus.head
  cases cls with
  | stop =>
    have hstop : b.stopQueue = q :: rest := hq
    rw [hstop]
  | event =>
    have hstop : b.stopQueue = [] := hempty .stop (by decide)
    have hevent : b.eventQueue = q :: rest := hq
    rw [hstop, hevent]
  | report =>
    have hstop : b.stopQueue = [] := hempty .stop (by decide)
    have hevent : b.eventQueue = [] := hempty .event (by decide)
    have hreport : b.reportQueue = q :: rest := hq
    rw [hstop, hevent, hreport]
  | link =>
    have hstop : b.stopQueue = [] := hempty .stop (by decide)
    have hevent : b.eventQueue = [] := hempty .event (by decide)
    have hreport : b.reportQueue = [] := hempty .report (by decide)
    have hlink : b.linkQueue = q :: rest := hq
    rw [hstop, hevent, hreport, hlink]

theorem head_of_empty (h : ∀ cls, b.queue cls = []) : b.head = none := by
  have hstop : b.stopQueue = [] := h .stop
  have hevent : b.eventQueue = [] := h .event
  have hreport : b.reportQueue = [] := h .report
  have hlink : b.linkQueue = [] := h .link
  unfold Bus.head
  rw [hstop, hevent, hreport, hlink]

theorem dueAtSlot_of_Heads (h : s.bus.Heads cls q rest) (m : Fin 44) :
    s.dueAtSlot m = if s.bus.state = .active ∧ m.val = deferral cls s.station.position.toNat then some (cls, q) else none := by
  unfold State.dueAtSlot
  rw [head_of_Heads h]

theorem dueAtSlot_of_empty (h : ∀ cls, s.bus.queue cls = []) (m : Fin 44) : s.dueAtSlot m = none := by
  unfold State.dueAtSlot
  rw [head_of_empty h]

/-! ### An attempt begins (R37, R38) -/

theorem withQueue_queue (b : Bus) (cls : TxClass) : b.withQueue (b.queue cls) cls = b := by cases cls <;> rfl

theorem begin_of_numbered (h : b.Heads cls q rest) {k : Byte} (hk : q.seq = some k) : b.begin cls q =
    { b with line := .busy, attempt := some { telegram := q.telegram, seq := k, cls := cls, queued := true } } := by
  have hkept : b.withQueue ({ q with seq := some k } :: rest) cls = b := by
    rw [← hk, ← h.1, withQueue_queue]
  simp only [Bus.begin, Queued.numberAt, hk, h.1, List.tail_cons, Option.getD_some, hkept]
  rfl

theorem begin_of_unnumbered (h : b.Heads cls q rest) (hk : q.seq = none) : b.begin cls q =
    { b.withQueue ({ q with seq := some b.ownSeq } :: rest) cls with
      ownSeq := b.ownSeq + 1, line := .busy
      attempt := some { telegram := q.telegram, seq := b.ownSeq, cls := cls, queued := true } } := by
  simp only [Bus.begin, Queued.numberAt, hk, h.1, List.tail_cons, Option.getD_none]
  rfl

/-! ### Slots pass (R38) -/

theorem attemptBegin_of_attempt (slots : Nat) (h : s.bus.attempt ≠ none) : exec (.attemptBegin slots) s = .next s :=
  congrArg Host.Outcome.next (if_pos (Option.isSome_iff_ne_none.2 h))

theorem attemptBegin_of_no_attempt (slots : Nat) (h : s.bus.attempt = none) :
    exec (.attemptBegin slots) s = .next ((s.withLine s.bus.line.nowIdle).slotsPass slots) :=
  congrArg Host.Outcome.next (if_neg (by simp [h]))

theorem withLine_of_eq {l : LineState} (h : s.bus.line = l) : s.withLine l = s := by
  subst h
  rfl

theorem attemptBegin_of_idle (slots : Nat) (h : s.bus.attempt = none) {n : Fin 44} (hn : s.bus.line = .idle n) :
    exec (.attemptBegin slots) s = .next (s.slotsPass slots) := by
  rw [attemptBegin_of_no_attempt slots h, hn, LineState.nowIdle, withLine_of_eq hn]

theorem attemptBegin_of_not_idle (slots : Nat) (h : s.bus.attempt = none) (hline : s.bus.line = .busy ∨ s.bus.line = .lost) :
    exec (.attemptBegin slots) s = exec (.attemptBegin slots) (s.idleAt 0) := by
  have hidle : s.bus.line.nowIdle = .idle 0 := by rcases hline with hl | hl <;> rw [hl] <;> rfl
  rw [attemptBegin_of_no_attempt slots h, hidle, attemptBegin_of_idle (s := s.idleAt 0) slots h rfl]
  rfl

theorem slot_succ {n m : Fin 44} (h : m.val = if n.val = 43 then 0 else n.val + 1) : n + 1 = m := by
  ext
  rw [Fin.val_add, h]
  show (n.val + 1) % 44 = _
  split <;> omega

/-- Where no attempt begins at the next slot, the count stands there. -/
theorem attemptBegin_succ_of_none (slots : Nat) (h : s.bus.attempt = none) {n m : Fin 44} (hn : s.bus.line = .idle n)
    (hm : n + 1 = m) (hdue : s.dueAtSlot m = none) :
    exec (.attemptBegin (slots + 1)) s = exec (.attemptBegin slots) (s.idleAt m) := by
  rw [attemptBegin_of_idle (slots + 1) h hn, attemptBegin_of_idle (s := s.idleAt m) slots h rfl, ← withLine_of_eq hn, Laws.slotsPass_succ,
    State.slotComes, Laws.dueAtSlot_withLine, hm, hdue]
  rfl

theorem attemptBegin_succ_of_some (slots : Nat) (h : s.bus.attempt = none) {n m : Fin 44} (hn : s.bus.line = .idle n)
    (hm : n + 1 = m) (hdue : s.dueAtSlot m = some (cls, q)) :
    exec (.attemptBegin (slots + 1)) s = .next (s.beginAttempt cls q) := by
  rw [attemptBegin_of_idle (slots + 1) h hn, ← withLine_of_eq hn, Laws.slotsPass_succ, State.slotComes, Laws.dueAtSlot_withLine, hm, hdue]
  dsimp only
  rw [State.withLine_beginAttempt, Laws.slotsPass_begun]

theorem deferral_lt (cls : TxClass) {position : Nat} (h : position ≤ 9) : deferral cls position < 44 := by
  have hcls : cls.number ≤ 3 := by cases cls <;> decide
  unfold deferral
  omega

/-- Some slot of a cycle is the deferral. -/
theorem exists_slot (n : Fin 44) {d : Nat} (h : d < 44) : ∃ k, 1 ≤ k ∧ k ≤ 44 ∧ (n + Fin.ofNat 44 k).val = d := by
  refine ⟨(d + 43 - n.val) % 44 + 1, by omega, by omega, ?_⟩
  simp only [Fin.val_add, Fin.ofNat]
  omega

theorem slotsPass_cycle (h : s.bus.Heads cls q rest) (hactive : s.bus.state = .active) (hposition : s.station.position.toNat ≤ 9)
    (n : Fin 44) : (s.withLine (.idle n)).slotsPass 44 = s.beginAttempt cls q := by
  rcases Laws.slotsPass_eq 44 n s with ⟨hnone, -⟩ | ⟨k, cls', q', -, -, hdue, -, hpass⟩
  · obtain ⟨k, hk, hk', hslot⟩ := exists_slot n (deferral_lt cls hposition)
    have hdue := hnone k hk hk'
    rw [dueAtSlot_of_Heads h, if_pos ⟨hactive, hslot⟩] at hdue
    cases hdue
  · rw [dueAtSlot_of_Heads h] at hdue
    split at hdue
    · cases hdue
      exact hpass
    · cases hdue

theorem nowIdle_eq (l : LineState) : ∃ n, l.nowIdle = .idle n := by
  cases l <;> exact ⟨_, rfl⟩

/-- Settles O35: the count comes to one slot after the other, and 44 of them meet every deferral. -/
theorem attemptBeginsAtTheDeferral : Obligations.AttemptBeginsAtTheDeferral := by
  refine ⟨fun slots s h => attemptBegin_of_attempt slots h, fun slots s h hline => attemptBegin_of_not_idle slots h hline,
    fun n m slots s h hn hm => ⟨attemptBegin_of_idle 0 h hn, fun cls q rest hq => ⟨fun hactive hslot => ?_, fun hno => ?_⟩, fun hempty => ?_⟩,
    fun cls q rest s hq hactive h hposition => ?_⟩
  · have hbegin := attemptBegin_succ_of_some slots h hn (slot_succ hm) ((dueAtSlot_of_Heads hq m).trans (if_pos ⟨hactive, hslot⟩))
    refine ⟨fun k hk => ?_, fun hk => ?_⟩
    · rw [hbegin, State.beginAttempt, begin_of_numbered hq hk]
    · rw [hbegin, State.beginAttempt, begin_of_unnumbered hq hk]
  · refine attemptBegin_succ_of_none slots h hn (slot_succ hm) ((dueAtSlot_of_Heads hq m).trans (if_neg ?_))
    rintro ⟨hactive, hslot⟩
    rcases hno with hsilent | hother
    · simp [hactive] at hsilent
    · exact hother hslot
  · exact attemptBegin_succ_of_none slots h hn (slot_succ hm) (dueAtSlot_of_empty hempty m)
  · obtain ⟨n, hidle⟩ := nowIdle_eq s.bus.line
    refine ⟨s.beginAttempt cls q, ?_, rfl, rfl⟩
    rw [attemptBegin_of_no_attempt 44 h, hidle, slotsPass_cycle hq hactive hposition]

/-! ### An attempt ends (R40 to R43) -/

variable {a : Attempt}

theorem attemptSuccess_eq (h : s.bus.attempt = some a) : exec .attemptSuccess s = .next { s with bus :=
    { (if a.queued then s.bus.withQueue (s.bus.queue a.cls).tail a.cls else s.bus) with
      attempt := none, line := .idle 0, failures := 0
      counters := { s.bus.counters with txGood := satAdd s.bus.counters.txGood 1 } } } := by
  show Host.Outcome.next s.attemptSucceeds = _
  unfold State.attemptSucceeds
  rw [h]
  dsimp only
  split
  · cases a.cls <;> rfl
  · rfl

/-- s once its failed attempt has ended, but for its telegram and for SILENT. -/
def attemptEnded (s : State) : State := { s with bus := s.bus.attemptFailed }

theorem attemptEnded_queue (s : State) (cls : TxClass) : (attemptEnded s).bus.queue cls = s.bus.queue cls := by cases cls <;> rfl

theorem failTelegram_line (a : Attempt) (v : State) : (v.failTelegram a).bus.line = v.bus.line := by
  unfold State.failTelegram
  split
  · split
    · rfl
    · split <;> cases a.cls <;> rfl
  · rfl

theorem attemptFail_eq (h : s.bus.attempt = some a) : exec .attemptFail s = .next
    (if s.bus.failures + 1 < 16 then (attemptEnded s).failTelegram a else ((attemptEnded s).failTelegram a).enterSilent) := by
  have hfailures : ((attemptEnded s).failTelegram a).bus.failures = s.bus.failures + 1 := (failTelegram_frame _ a).2
  have hfails : s.attemptFails = if 16 ≤ ((attemptEnded s).failTelegram a).bus.failures
      then ((attemptEnded s).failTelegram a).enterSilent else (attemptEnded s).failTelegram a := by
    unfold State.attemptFails
    rw [h]
    rfl
  show Host.Outcome.next s.attemptFails = _
  rw [hfails, hfailures]
  by_cases hlimit : s.bus.failures + 1 < 16
  · rw [if_pos hlimit, if_neg (Nat.not_le.2 hlimit)]
  · rw [if_neg hlimit, if_pos (Nat.not_lt.1 hlimit)]

theorem failTelegram_of_gone (hqueued : a.queued = false) (v : State) : v.failTelegram a = v := by
  unfold State.failTelegram
  rw [if_neg (by simp [hqueued])]

theorem failTelegram_of_queued (hqueued : a.queued = true) {v : State} (hq : v.bus.queue a.cls = q :: rest) :
    v.failTelegram a = if 4 ≤ q.failed + 1 then State.dropped q.telegram 1 { v with bus := v.bus.withQueue rest a.cls }
      else { v with bus := v.bus.withQueue ({ q with failed := q.failed + 1 } :: rest) a.cls } := by
  unfold State.failTelegram
  rw [if_pos hqueued, hq]
  rfl

theorem attemptFail_lost {u : State} (h : s.bus.attempt = some a) (hu : exec .attemptFail s = .next u) :
    u.bus.line = .lost ∧ u.bus.attempt = none := by
  rw [attemptFail_eq h] at hu
  have hline : ((attemptEnded s).failTelegram a).bus.line = .lost := failTelegram_line a _
  have hattempt : ((attemptEnded s).failTelegram a).bus.attempt = none := (failTelegram_frame _ a).1
  split at hu
  · cases hu
    exact ⟨hline, hattempt⟩
  · cases hu
    exact ⟨hline, hattempt⟩

/-- Settles O36: the end of an attempt, then its telegram, then the sixteenth failure in a row. -/
theorem attemptEndsInSuccessOrFailure : Obligations.AttemptEndsInSuccessOrFailure := by
  refine ⟨fun a s h => ?_, fun a s h => ?_, fun a t src seq s u h hu => ?_, fun s h => ?_⟩
  · intro done
    refine ⟨fun hqueued => ?_, fun hqueued => ?_⟩
    · rw [attemptSuccess_eq h, if_pos hqueued]
    · rw [attemptSuccess_eq h, if_neg (by simp [hqueued])]
  · intro b ended
    rw [attemptFail_eq h]
    refine ⟨fun hqueued => ?_, fun q rest hqueued hq => ?_⟩
    · rw [failTelegram_of_gone hqueued]
      rfl
    · rw [failTelegram_of_queued hqueued ((attemptEnded_queue s a.cls).trans hq)]
      refine ⟨fun hfew => ?_, fun hlast => ?_⟩
      · rw [if_neg (Nat.not_le.2 hfew)]
        rfl
      · rw [if_pos hlast]
        rfl
  · obtain ⟨hline, hattempt⟩ := attemptFail_lost h hu
    exact ⟨hline, hattempt, exec_received_of_lost t src seq hline⟩
  · refine ⟨?_, ?_⟩
    · show Host.Outcome.next s.attemptSucceeds = _
      unfold State.attemptSucceeds
      rw [h]
    · show Host.Outcome.next s.attemptFails = _
      unfold State.attemptFails
      rw [h]

end Sys2Proof.Proofs

/-! Expiries (Sections 4.8, 5.3, 5.4, 7.4, 7.8, 8.6 and 8.9): sample loss, encoder fault, age, and the timers of the looper and the trim. -/

namespace Sys2Proof.Proofs

open Sys2Proof.Machine

variable {s : State} {c : ConfigRecord}

/-! ### SAMPLE_LOSS (R91, R137) -/

theorem execSampleLoss_of_expired (hc : s.station.config = some c)
    (hlive : s.station.state = .linking ∨ s.station.state = .running ∨ s.station.state = .stopped)
    (htimer : s.stand.sampleTimer = some 0) (hloss : s.stand.sampleLoss = false) : exec .sampleLoss s = .next (State.looperSampleLoss c
      (State.setFlag .sampleLoss (State.raise .sampleLoss 0 ((s.stand.lastSeq.getD 0).setWidth 16)
        { s with stand := { s.stand with sampleLoss := true } }))) := by
  show execSampleLoss s = _
  unfold execSampleLoss
  rw [hc]
  exact if_pos ⟨(Laws.live_iff s).2 hlive, (timer_expired_iff _).2 htimer, hloss⟩

theorem execSampleLoss_of_not_expired (h : s.stand.sampleTimer ≠ some 0 ∨ s.stand.sampleLoss = true) :
    exec .sampleLoss s = .next s := by
  show execSampleLoss s = _
  unfold execSampleLoss
  split
  · refine if_neg ?_
    rintro ⟨-, htimer, hloss⟩
    rcases h with hother | hstanding
    · exact hother ((timer_expired_iff _).1 htimer)
    · simp [hstanding] at hloss
  · rfl

theorem looperSampleLoss_of_resting (h : s.looper.state = .parked ∨ s.looper.state = .armed ∨ s.looper.state = .holdOff) :
    s.looperSampleLoss c = s := by
  unfold State.looperSampleLoss
  rcases h with hl | hl | hl <;> rw [hl]

theorem looperSampleLoss_of_moving (h : s.looper.state = .lifting .rise ∨ s.looper.state = .lifting .settle ∨
    s.looper.state = .regulating ∨ s.looper.state = .lowering) : s.looperSampleLoss c = s.looperFaulted c 5 := by
  have hfault : s.looperSampleLoss c = s.looperFault c .sampleLoss := by
    unfold State.looperSampleLoss
    rcases h with hl | hl | hl | hl <;> rw [hl]
  exact hfault.trans (looperFault_eq_looperFaulted c .sampleLoss s)

/-! ### ENCODER_FAULT (R93, R78, R101) -/

theorem encoderFault_eq_stalled : Entry.encoderFault = Entry.stalled := by
  funext e
  unfold Entry.encoderFault Entry.stalled
  rcases e.downstream <;> simp

theorem execEncoderFault_of_found {x : Sample} (hx : s.stand.latest = some x) (h : s.stallFound = true) :
    exec .encoderFault s = .next (State.setFlag .encoder (State.raise .encoderFault 0 x.speed { s with
      stand := { s.stand with encoderStall := true }
      table := s.table.map Entry.stalled
      detector := { s.detector with verify := .idle } })) := by
  show execEncoderFault s = _
  unfold execEncoderFault
  rw [hx, ← encoderFault_eq_stalled]
  exact if_pos h

theorem execEncoderFault_of_not_found {x : Sample} (hx : s.stand.latest = some x) (h : ¬ s.stallFound = true) :
    exec .encoderFault s = .next s := by
  show execEncoderFault s = _
  unfold execEncoderFault
  rw [hx]
  exact if_neg h

/-- Settles O43: each check finds its condition or changes nothing. -/
theorem sampleLossAndEncoderFaultAreSet : Obligations.SampleLossAndEncoderFaultAreSet := by
  refine fun c s hc hlive => ⟨fun htimer hloss => ?_, execSampleLoss_of_not_expired, fun x hx => ⟨fun htimer hspeed hloss hstall => ?_,
    fun hnot => ?_⟩⟩
  · intro v
    rw [execSampleLoss_of_expired hc hlive htimer hloss]
    exact ⟨fun hl => congrArg _ (looperSampleLoss_of_resting (s := v) hl), fun hl => congrArg _ (looperSampleLoss_of_moving (s := v) hl)⟩
  · refine execEncoderFault_of_found hx ((stallFound_iff s).2 ⟨hlive, htimer, ?_, hloss, hstall⟩)
    rw [hx]
    exact decide_eq_true hspeed
  · refine execEncoderFault_of_not_found hx fun hfound => ?_
    obtain ⟨-, htimer, hspeed, hloss, hstall⟩ := (stallFound_iff s).1 hfound
    rw [hx] at hspeed
    have hspeed' : 500 ≤ x.speed.toNat := of_decide_eq_true hspeed
    rcases hnot with h | h | h | h
    · exact h htimer
    · omega
    · simp [h] at hloss
    · simp [h] at hstall

/-! ### PIECE_AGED (R81) -/

theorem aged_iff (limit : Nat) (e : Entry) :
    e.aged limit = true ↔ ((e.phase = .announced ∧ e.origin = .bus) ∨ e.phase = .cleared) ∧ limit ≤ e.age := by
  rw [Entry.aged, Bool.and_eq_true, aging_iff, decide_eq_true_iff]

theorem aged_eq (limit : Nat) : Entry.aged limit =
    fun e : Entry => decide (((e.phase = .announced ∧ e.origin = .bus) ∨ e.phase = .cleared) ∧ limit ≤ e.age) := by
  funext e
  rw [Bool.eq_iff_iff, aged_iff, decide_eq_true_iff]

theorem execPieceAged_of_aged (hc : s.station.config = some c) {k : Nat} {e : Entry} (hk : s.oldest (Entry.aged c.ageLimitMs) = some k)
    (he : s.table[k]? = some e) : exec .pieceAged s = .next (State.raise .pieceAged e.tag
      (half e.phase.code (if e.phase = .cleared then e.downstream.code else 0)) { s with table := s.table.eraseIdx k }) := by
  show execPieceAged s = _
  unfold execPieceAged
  rw [hc]
  dsimp only
  rw [hk]
  dsimp only
  rw [he]
  rfl

theorem execPieceAged_of_none (hc : s.station.config = some c) (hk : s.oldest (Entry.aged c.ageLimitMs) = none) :
    exec .pieceAged s = .next s := by
  show execPieceAged s = _
  unfold execPieceAged
  rw [hc]
  dsimp only
  rw [hk]

/-- Settles O44: the oldest aged entry goes, and none where there is none. -/
theorem agedEntryIsRemoved : Obligations.AgedEntryIsRemoved := by
  intro c s hc aged
  refine ⟨fun k e h => execPieceAged_of_aged hc ?_ h.1, fun h => execPieceAged_of_none hc ?_⟩
  · rw [aged_eq]
    exact oldest_of_Oldest h
  · rw [aged_eq]
    exact oldest_eq_none_of_forall h

/-! ### The timers of the looper and the trim (R130, R131, R134, R136, R151, R157) -/

theorem latestField_of_some {x : Sample} (hx : s.stand.latest = some x) (f : Sample → Half) : s.latestField f = (f x, s) := by
  unfold State.latestField
  rw [hx]

theorem latestField_of_none (hx : s.stand.latest = none) (f : Sample → Half) :
    s.latestField f = (Config.freeValue s.freeCount, { s with freeCount := s.freeCount + 1 }) := by
  unfold State.latestField
  rw [hx]

theorem execLiftTimeout_of_expired (hc : s.station.config = some c) (hl : s.looper.state = .lifting .rise)
    (htimer : s.looper.liftTimer = some 0) :
    exec .liftTimeout s = .next (s.looperTimeout c .liftTimeout .liftTimeout .liftTimeout) := by
  show execLiftTimeout s = _
  unfold execLiftTimeout
  rw [hc]
  exact if_pos ⟨hl, (timer_expired_iff _).2 htimer⟩

theorem execLowerTimeout_of_expired (hc : s.station.config = some c) (hl : s.looper.state = .lowering)
    (htimer : s.looper.lowerTimer = some 0) :
    exec .lowerTimeout s = .next (s.looperTimeout c .lowerTimeout .lowerTimeout .lowerTimeout) := by
  show execLowerTimeout s = _
  unfold execLowerTimeout
  rw [hc]
  exact if_pos ⟨hl, (timer_expired_iff _).2 htimer⟩

theorem looperTimeout_of_some {x : Sample} (hx : s.stand.latest = some x) (kind : EventKind) (flag : LatchedFlag) (f : LooperFault) :
    s.looperTimeout c kind flag f = ((s.raise kind s.looper.served x.angle).setFlag flag).looperFaulted c f.code := by
  unfold State.looperTimeout
  rw [latestField_of_some hx]
  exact looperFault_eq_looperFaulted c f _

theorem looperTimeout_of_none (hx : s.stand.latest = none) (kind : EventKind) (flag : LatchedFlag) (f : LooperFault) :
    s.looperTimeout c kind flag f = State.looperFaulted c f.code (State.setFlag flag
      (State.raise kind s.looper.served (Config.freeValue s.freeCount) { s with freeCount := s.freeCount + 1 })) := by
  unfold State.looperTimeout
  rw [latestField_of_none hx]
  exact looperFault_eq_looperFaulted c f _

theorem execReportPeriodExpiry_of_expired (hc : s.station.config = some c) (hrole : s.role = .stand)
    (htimer : s.trim.reportTimer = some 0) :
    let v : State := { s with trim := { s.trim with reportTimer := some c.reportPeriod.toNat } }
    exec .reportPeriodExpiry s = .next (if s.station.state = .running ∧ s.detector.state = .loaded then v.queueReport else v) := by
  intro v
  show execReportPeriodExpiry s = _
  unfold execReportPeriodExpiry
  rw [hc]
  exact if_pos ⟨hrole, (timer_expired_iff _).2 htimer⟩

theorem queueReport_of_some {x : Sample} (hx : s.stand.latest = some x) :
    s.queueReport = s.queueTelegram (.speedReport s.inStandTag x.speed) := by
  unfold State.queueReport
  rw [latestField_of_some hx]

theorem isInStand_eq : Entry.isInStand = fun e : Entry => decide (e.phase = .inStand ∨ e.phase = .tailApproaching) := by
  funext e
  rw [Bool.eq_iff_iff, Laws.isInStand_iff, decide_eq_true_iff]

theorem inStandTag_eq (s : State) :
    s.inStandTag = ((s.table.find? fun e => e.phase = .inStand ∨ e.phase = .tailApproaching).map Entry.tag).getD 0 := by
  rw [State.inStandTag, State.inStand?, isInStand_eq]

/-- Settles O45: each timer at its end has the effect of its expiry. -/
theorem looperAndTrimTimersExpire : Obligations.LooperAndTrimTimersExpire := by
  intro c s hc tag
  have htag : s.inStandTag = tag := inStandTag_eq s
  refine ⟨fun x hx => ⟨fun hl htimer => ?_, fun hl htimer => ?_, fun hrole htimer hrunning hloaded => ?_⟩, fun hx hl htimer => ?_,
    fun hl htimer => ?_, fun hl htimer => ?_, fun hrole htimer hother => ?_⟩
  · rw [execLiftTimeout_of_expired hc hl htimer, looperTimeout_of_some hx]
    rfl
  · rw [execLowerTimeout_of_expired hc hl htimer, looperTimeout_of_some hx]
    rfl
  · rw [execReportPeriodExpiry_of_expired hc hrole htimer, if_pos ⟨hrunning, hloaded⟩, ← htag]
    exact congrArg Host.Outcome.next (queueReport_of_some hx)
  · refine ⟨Config.freeValue s.freeCount, ?_⟩
    rw [execLiftTimeout_of_expired hc hl htimer, looperTimeout_of_none hx]
    rfl
  · exact if_pos ⟨hl, (timer_expired_iff _).2 htimer⟩
  · rw [← htag]
    exact if_pos ⟨hl, (timer_expired_iff _).2 htimer⟩
  · rw [execReportPeriodExpiry_of_expired hc hrole htimer, if_neg]
    rintro ⟨hrunning, hloaded⟩
    rcases hother with h | h
    · exact h hrunning
    · exact h hloaded

end Sys2Proof.Proofs

/-! The marks (Sections 1.7, 6.5 to 6.7): which are due, in what order they are reported, and what the report of each does. -/

namespace Sys2Proof.Proofs

open Sys2Proof.Machine

variable {s : State} {c : ConfigRecord}

/-! ### The order of reports (R13, R112) -/

/-- Inserting a mark keeps marks of equal value in their order: it comes before those of its own value. -/
theorem filter_insertMark (v : Nat) (m : Nat × Mark) (l : List (Nat × Mark)) :
    (insertMark m l).filter (fun x => x.1 = v) = (m :: l).filter fun x => x.1 = v := by
  induction l with
  | nil => rfl
  | cons x xs ih =>
    unfold insertMark
    split
    · rfl
    · rw [List.filter_cons, ih]
      by_cases hm : m.1 = v
      · have hx : x.1 ≠ v := by omega
        simp [hm, hx]
      · simp [List.filter_cons, hm]

theorem pairwise_insertMark (m : Nat × Mark) {l : List (Nat × Mark)} (h : l.Pairwise fun a b => a.1 ≤ b.1) :
    (insertMark m l).Pairwise fun a b => a.1 ≤ b.1 := by
  induction l with
  | nil => exact List.pairwise_singleton _ _
  | cons x xs ih =>
    obtain ⟨hx, hxs⟩ := List.pairwise_cons.1 h
    unfold insertMark
    split
    · rename_i hle
      refine List.pairwise_cons.2 ⟨fun y hy => ?_, h⟩
      rcases List.mem_cons.1 hy with rfl | hy
      · exact hle
      · exact Nat.le_trans hle (hx y hy)
    · rename_i hlt
      refine List.pairwise_cons.2 ⟨fun y hy => ?_, ih hxs⟩
      rcases List.mem_cons.1 ((Laws.insertMark_perm m xs).mem_iff.1 hy) with rfl | hy
      · omega
      · exact hx y hy

/-- Marks sorted by value, equal values in the order given. -/
theorem exists_reportOrder (ms : List (Nat × Mark)) : ∃ l : List (Nat × Mark), l.Perm ms ∧ l.Pairwise (fun a b => a.1 ≤ b.1) ∧
    (∀ v, l.filter (fun m => m.1 = v) = ms.filter fun m => m.1 = v) ∧ inReportOrder ms = l.map Prod.snd := by
  refine ⟨ms.foldr insertMark [], ?_, ?_, fun v => ?_, rfl⟩
  · induction ms with
    | nil => exact List.Perm.refl _
    | cons m ms ih => exact (Laws.insertMark_perm m _).trans (ih.cons m)
  · induction ms with
    | nil => exact List.Pairwise.nil
    | cons m ms ih => exact pairwise_insertMark m ih
  · induction ms with
    | nil => rfl
    | cons m ms ih => rw [List.foldr_cons, filter_insertMark, List.filter_cons, ih, List.filter_cons]

/-! ### The marks that are due (R112) -/

theorem reachedOf_cons (d v : Nat) (m : Mark) (reached : Bool) (marks : List (Nat × Mark × Bool)) :
    reachedOf d ((v, m, reached) :: marks) = (if !reached && v ≤ d then [(v, m)] else []) ++ reachedOf d marks := by
  cases reached with
  | true => simp [reachedOf]
  | false => by_cases h : v ≤ d <;> simp [reachedOf, h]

theorem headDue_of_marked (d : Nat) (h : HeadMarks) : h.due d = reachedOf d
    [(h.armPoint, .armPoint, h.armReached), (h.windowLow, .windowLow, h.lowReached), (h.windowHigh + 1, .expiry, h.expiryReached)] := by
  rw [reachedOf_cons, reachedOf_cons, reachedOf_cons, show reachedOf d [] = [] from rfl, List.append_nil, ← List.append_assoc]
  rfl

theorem tailDue_of_marked (d : Nat) (t : TailMarks) : t.due d = reachedOf d
    [(t.lowering, .lowering, t.loweringReached), (t.tailHigh + 1, .overdue, t.overdueReached)] := by
  rw [reachedOf_cons, reachedOf_cons, show reachedOf d [] = [] from rfl, List.append_nil]
  rfl

theorem headDue_of_some {e : Entry} {h : HeadMarks} {p : Word} (hh : e.headMarks = some h) (hp : e.biteStamp = some p) (pulse : Word) :
    e.headDue pulse = h.due (distance pulse p) := by
  unfold Entry.headDue
  rw [hh, hp]

theorem headDue_of_none {e : Entry} (h : e.headMarks = none ∨ e.biteStamp = none) (pulse : Word) : e.headDue pulse = [] := by
  unfold Entry.headDue
  rcases h with h | h
  · rw [h]
  · rw [h]
    cases e.headMarks <;> rfl

theorem tailDue_of_some {e : Entry} {t : TailMarks} {p : TailStamp} (ht : e.tailMarks = some t) (hp : e.tailStamp = some p) (pulse : Word) :
    e.tailDue pulse = t.due (distance pulse p.position) := by
  unfold Entry.tailDue
  rw [ht, hp]

theorem tailDue_of_none {e : Entry} (h : e.tailMarks = none ∨ e.tailStamp = none) (pulse : Word) : e.tailDue pulse = [] := by
  unfold Entry.tailDue
  rcases h with h | h
  · rw [h]
  · rw [h]
    cases e.tailMarks <;> rfl

/-! ### The entries are taken one after the other (R113) -/

theorem length_autoStop_le (level cause : Byte) (s : State) : (s.autoStop level cause).table.length ≤ s.table.length := by
  unfold State.autoStop State.originateStop State.takeOwnStop
  split
  · exact le_rfl
  · split
    · exact Nat.zero_le _
    · rw [Laws.queueTelegram_table]

theorem length_headLost_le (c : ConfigRecord) (tag : Half) (standing : Bool) (s : State) :
    (s.headLost c tag standing).table.length ≤ s.table.length := by
  unfold State.headLost
  extract_lets flagged queued held
  have hheld : held.table = s.table := by
    show (if queued.hasLooper c then { queued with looper := queued.looper.toHoldOff c } else queued).table = s.table
    rw [apply_ite State.table, ite_self]
    exact Laws.queueTelegram_table ..
  exact (length_autoStop_le ..).trans (le_of_eq (congrArg List.length hheld))

theorem looperUnconfirmed_table (s : State) : s.looperUnconfirmed.table = s.table := by
  unfold State.looperUnconfirmed
  split <;> rfl

theorem looperArmPoint_table (c : ConfigRecord) (e : Entry) (s : State) : (s.looperArmPoint c e).table = s.table := by
  unfold State.looperArmPoint
  split
  · split <;> rfl
  · rfl

theorem rampOut_table (s : State) : s.rampOut.table = s.table := by
  obtain ⟨t, ht⟩ := Laws.rampOut_eq s
  rw [ht]

theorem lowerLooper_table (c : ConfigRecord) (s : State) : (s.lowerLooper c).table = s.table := by
  obtain ⟨l, t, hlt⟩ := Laws.lowerLooper_eq c s
  rw [hlt]

theorem length_windowExpired_le (c : ConfigRecord) (k : Nat) (e : Entry) (s : State) :
    (s.windowExpired c k e).table.length ≤ s.table.length := by
  unfold State.windowExpired
  split
  · split
    · refine le_of_eq ?_
      split
      · rw [looperUnconfirmed_table]
        simp
      · simp
    · exact (length_headLost_le ..).trans (by simp)
  · exact le_rfl

/-- A report adds no entry. -/
theorem length_reportMark_le (c : ConfigRecord) (k : Nat) (m : Mark) (s : State) : (s.reportMark c k m).table.length ≤ s.table.length := by
  unfold State.reportMark
  split
  · exact le_rfl
  · rename_i e _
    have hreached : (s.table.modify k (Entry.reach m)).length ≤ s.table.length := by simp
    cases m with
    | armPoint =>
      dsimp only
      split
      · rw [looperArmPoint_table]
        exact hreached
      · exact hreached
    | windowLow =>
      dsimp only
      split
      · simp
      · exact hreached
    | expiry => exact (length_windowExpired_le ..).trans hreached
    | lowering =>
      dsimp only
      split
      · rw [rampOut_table, lowerLooper_table]
        exact hreached
      · exact hreached
    | overdue =>
      dsimp only
      split
      · exact hreached
      · exact hreached

theorem length_reportMarks_le (c : ConfigRecord) (k : Nat) (ms : List Mark) (s : State) :
    (s.reportMarks c k ms).table.length ≤ s.table.length := by
  induction ms generalizing s with
  | nil => exact le_rfl
  | cons m ms ih => exact (ih _).trans (length_reportMark_le ..)

theorem length_evaluateEntry_le (c : ConfigRecord) (s : State) (k : Nat) : (s.evaluateEntry c k).table.length ≤ s.table.length := by
  unfold State.evaluateEntry
  split
  · exact le_rfl
  · exact length_reportMarks_le ..

theorem evaluateEntry_of_absent {k : Nat} (h : s.table.length ≤ k) : s.evaluateEntry c k = s := by
  unfold State.evaluateEntry
  rw [List.getElem?_eq_none h]

theorem length_foldl_evaluateEntry_le (c : ConfigRecord) (ks : List Nat) (s : State) :
    (ks.foldl (fun u k => u.evaluateEntry c k) s).table.length ≤ s.table.length := by
  induction ks generalizing s with
  | nil => exact le_rfl
  | cons k ks ih => exact (ih _).trans (length_evaluateEntry_le ..)

theorem foldl_evaluateEntry_of_absent {ks : List Nat} (h : ∀ k ∈ ks, s.table.length ≤ k) :
    ks.foldl (fun u k => u.evaluateEntry c k) s = s := by
  induction ks with
  | nil => rfl
  | cons k ks ih =>
    rw [List.foldl_cons, evaluateEntry_of_absent (h k List.mem_cons_self)]
    exact ih fun j hj => h j (List.mem_cons_of_mem _ hj)

/-- The slots beyond the entries report nothing. -/
theorem evaluateMarks_eq (h : s.table.length ≤ 8) :
    s.evaluateMarks c = (List.range s.table.length).foldl (fun u k => u.evaluateEntry c k) s := by
  have hsplit : List.range 8 = List.range s.table.length ++ (List.range (8 - s.table.length)).map (s.table.length + ·) := by
    rw [← List.range_add, Nat.add_sub_cancel' h]
  show (List.range 8).foldl (fun u k => u.evaluateEntry c k) s = _
  rw [hsplit, List.foldl_append]
  refine foldl_evaluateEntry_of_absent fun k hk => ?_
  obtain ⟨j, -, rfl⟩ := List.mem_map.1 hk
  exact (length_foldl_evaluateEntry_le ..).trans (Nat.le_add_right ..)

/-- Where no mark is due the travel unit reports nothing. -/
theorem evaluateMarks_of_none_due (h : ∀ e ∈ s.table, e.headDue s.stand.pulse = [] ∧ e.tailDue s.stand.pulse = []) :
    s.evaluateMarks c = s := by
  have hentry (k : Nat) : s.evaluateEntry c k = s := by
    unfold State.evaluateEntry
    split
    · rfl
    · rename_i e he
      obtain ⟨hhead, htail⟩ := h e (List.mem_of_getElem? he)
      rw [hhead, htail]
      rfl
  exact List.foldl_fixed' hentry _

/-- Settles O54: an insertion by value sorts the marks and keeps equal ones in order. -/
theorem reachedMarksAreReportedInOrder : Obligations.ReachedMarksAreReportedInOrder := by
  refine ⟨exists_reportOrder, headDue_of_marked, fun pulse e => ⟨fun h p hh hp => headDue_of_some hh hp pulse, fun h => headDue_of_none h pulse,
    fun t p ht hp => tailDue_of_some ht hp pulse, fun h => tailDue_of_none h pulse⟩, fun c s hroom => ?_, fun c k m ms s => ⟨rfl, rfl⟩,
    tailDue_of_marked⟩
  intro evaluated
  have hevaluated : (fun (u : State) k => evaluated k u) = fun u k => u.evaluateEntry c k := by
    funext u k
    dsimp only [evaluated]
    unfold State.evaluateEntry
    cases u.table[k]? <;> rfl
  rw [hevaluated, evaluateMarks_eq hroom]

/-! ### What a report does (Table 6.3) -/

theorem modify_of_getElem? {table : List Entry} {k : Nat} {e : Entry} (h : table[k]? = some e) (f : Entry → Entry) :
    table.modify k f = table.set k (f e) := by
  rw [List.modify_eq_set_getElem?, h]
  rfl

/-- s with the indication of a mark reached in the entry at a slot. -/
def reached (k : Nat) (e : Entry) (m : Mark) (s : State) : State := { s with table := s.table.set k (e.reach m) }

/-- The same with fields of the entry written besides (R58). -/
def reachedAndWrote (k : Nat) (e : Entry) (m : Mark) (f : Entry → Entry) (s : State) : State :=
  { s with table := s.table.set k { f (e.reach m) with age := 0 } }

theorem writeEntry_reached {k : Nat} {e : Entry} (he : s.table[k]? = some e) (m : Mark) (f : Entry → Entry) :
    (reached k e m s).writeEntry k f = reachedAndWrote k e m f s := by
  obtain ⟨hk, -⟩ := List.getElem?_eq_some_iff.1 he
  have hat : (reached k e m s).table[k]? = some (e.reach m) := List.getElem?_set_self hk
  rw [Laws.writeEntry_eq _ _ _ _ hat]
  unfold reached reachedAndWrote
  dsimp only
  rw [List.set_set]

theorem reportMark_of_getElem? {k : Nat} {e : Entry} (he : s.table[k]? = some e) (m : Mark) : s.reportMark c k m =
    match m with
    | .armPoint => if e.isInStand then (reached k e m s).looperArmPoint c e else reached k e m s
    | .windowLow =>
      if e.downstream = .pending then reachedAndWrote k e m (fun e => { e with downstream := .inWindow }) s else reached k e m s
    | .expiry => (reached k e m s).windowExpired c k e
    | .lowering => if e.isInStand then ((reached k e m s).lowerLooper c).rampOut else reached k e m s
    | .overdue =>
      if e.isInStand then (reached k e m s).raise .tailOverdue e.tag (s.detector.state.code.setWidth 16) else reached k e m s := by
  have hreached : ({ s with table := s.table.modify k (Entry.reach m) } : State) = reached k e m s := by
    rw [modify_of_getElem? he]
    rfl
  unfold State.reportMark
  rw [he]
  dsimp only
  rw [hreached]
  cases m with
  | windowLow =>
    dsimp only
    rw [writeEntry_reached he]
  | armPoint => rfl
  | expiry => rfl
  | lowering => rfl
  | overdue => rfl

theorem headLost_eq_lostHead (c : ConfigRecord) (tag : Half) (standing : Bool) (s : State) :
    s.headLost c tag standing = s.lostHead c tag (if standing then 0 else 1) := by
  unfold State.headLost State.lostHead
  rw [autoStop_eq_autoStopped]
  simp only [State.hasLooper, Laws.queueTelegram_station, Laws.queueTelegram_looper]
  rfl

theorem lowerLooper_eq_lowered (c : ConfigRecord) (s : State) : s.lowerLooper c = s.lowered c := by
  unfold State.lowerLooper State.lowered
  rcases hl : s.looper.state with _ | _ | p | _ | _ | _
  case lifting => cases p <;> simp
  all_goals simp

theorem looperUnconfirmed_eq (s : State) :
    s.looperUnconfirmed = if s.looper.state = .armed then { s with looper := { s.looper with state := .parked } } else s := by
  unfold State.looperUnconfirmed
  cases s.looper.state <;> rfl

theorem looperArmPoint_of_Trims (ht : s.Trims c) (e : Entry) : s.looperArmPoint c e =
    if s.looper.state = .parked then { s with looper := { s.looper with state := .armed, served := e.tag } }
    else if s.looper.state = .lowering then { s with looper := { s.looper with armPending := true } } else s := by
  unfold State.looperArmPoint
  rw [if_pos (hasLooper_of_Trims ht)]
  cases s.looper.state <;> rfl

theorem looperArmPoint_of_not_Trims (ht : ¬ s.Trims c) (e : Entry) : s.looperArmPoint c e = s := by
  unfold State.looperArmPoint
  rw [hasLooper_of_not_Trims ht]
  rfl

theorem windowExpired_of_not_open {e : Entry} (h : e.downstream ≠ .inWindow) (k : Nat) : s.windowExpired c k e = s := if_neg h

theorem windowExpired_of_lost {k : Nat} {e : Entry} (h : e.downstream = .inWindow) (hgap : e.flags.downstreamGap = false) :
    s.windowExpired c k e = (s.writeEntry k fun e => { e with downstream := .lost }).headLost c e.tag e.isInStand := by
  unfold State.windowExpired
  rw [if_pos h, hgap]
  rfl

theorem windowExpired_of_gap {k : Nat} {e : Entry} (h : e.downstream = .inWindow) (hgap : e.flags.downstreamGap = true) :
    s.windowExpired c k e =
      let u := (s.writeEntry k fun e => { e with downstream := .unconfirmed }).raise .headUnconfirmed e.tag 0
      if e.isInStand then u.looperUnconfirmed else u := by
  unfold State.windowExpired
  rw [if_pos h, hgap]
  rfl

/-- Settles O55: mark by mark, along Table 6.3. -/
theorem reportOfAMarkActsAsTabled : Obligations.ReportOfAMarkActsAsTabled := by
  intro c k e s he v wrote standing
  have hstanding : standing ↔ e.isInStand = true := (Laws.isInStand_iff e).symm
  refine ⟨⟨fun hdown => ?_, fun hdown => ?_⟩, ⟨fun hdown => ?_, fun hdown hgap => ?_, fun hdown hgap => ?_⟩, ?_, ?_, ?_⟩
  · exact (reportMark_of_getElem? he .windowLow).trans (if_pos hdown)
  · exact (reportMark_of_getElem? he .windowLow).trans (if_neg hdown)
  · exact (reportMark_of_getElem? he .expiry).trans (windowExpired_of_not_open hdown k)
  · refine (reportMark_of_getElem? he .expiry).trans ?_
    dsimp only
    rw [windowExpired_of_lost hdown hgap, headLost_eq_lostHead, writeEntry_reached he]
    simp only [hstanding] <;> rfl
  · intro u
    refine (reportMark_of_getElem? he .expiry).trans ?_
    dsimp only
    rw [windowExpired_of_gap hdown hgap, writeEntry_reached he]
    show (if e.isInStand = true then u.looperUnconfirmed else u) = _
    rw [looperUnconfirmed_eq]
    by_cases hin : standing
    · rw [if_pos (hstanding.1 hin)]
      exact if_congr (and_iff_right hin).symm rfl rfl
    · rw [if_neg (mt hstanding.2 hin)]
      exact (if_neg fun hboth => hin hboth.1).symm
  · refine (reportMark_of_getElem? he .armPoint).trans ?_
    dsimp only
    by_cases hin : standing
    · rw [if_pos (hstanding.1 hin)]
      by_cases ht : s.Trims c
      · rw [if_neg (by tauto)]
        exact looperArmPoint_of_Trims (s := v .armPoint) ht e
      · rw [if_pos (Or.inr ht)]
        exact looperArmPoint_of_not_Trims (s := v .armPoint) ht e
    · rw [if_neg (mt hstanding.2 hin), if_pos (Or.inl hin)]
      rfl
  · refine (reportMark_of_getElem? he .lowering).trans ?_
    dsimp only
    rw [lowerLooper_eq_lowered]
    simp only [hstanding] <;> rfl
  · refine (reportMark_of_getElem? he .overdue).trans ?_
    simp only [hstanding] <;> rfl

end Sys2Proof.Proofs

/-! Pulses (Sections 5.1, 5.4 and 6.5): the channels, the position, the end of a stall, and the marks. -/

namespace Sys2Proof.Proofs

open Sys2Proof.Machine

variable {s : State} {c : ConfigRecord}

/-- The encoder follows the forward cycle: A changes to meet B, or B changes to meet A's reverse (Table 5.1). -/
theorem isForward_changed (ch : Channel) (a b : Bool) :
    isForward (encoderState a b) (encoderState (changedChannels ch a b).1 (changedChannels ch a b).2) =
      match ch with
      | .a => a == b
      | .b => a != b := by
  cases ch with
  | a => revert a b; decide
  | b => revert a b; decide

/-- The stand interface as a pulse leaves it, the stall condition apart. -/
theorem standAfterPulse_eq (ch : Channel) (s : State) : s.standAfterPulse ch = { s.stand with
    encA := (changedChannels ch s.stand.encA s.stand.encB).1, encB := (changedChannels ch s.stand.encA s.stand.encB).2
    pulse := countPulse (isForward (encoderState s.stand.encA s.stand.encB)
      (encoderState (changedChannels ch s.stand.encA s.stand.encB).1 (changedChannels ch s.stand.encA s.stand.encB).2)) s.stand.pulse
    stallTimer := s.stallRestarted, encoderStall := false, sincePulse := some 0 } := by
  rw [isForward_changed]
  unfold State.standAfterPulse State.stallRestarted countPulse
  cases ch <;> cases s.station.config <;> rfl

/-- s once a pulse has moved the position and has ended a standing stall, before the marks are evaluated. -/
def pulsed (ch : Channel) (s : State) : State :=
  let v : State := { s with stand := s.standAfterPulse ch }
  if s.stand.encoderStall then
    match s.stand.sincePulse with
    | some ms => v.raise .encoderResumed 0 (sat16 ms)
    | none => { v.raise .encoderResumed 0 (Config.freeValue s.freeCount) with freeCount := s.freeCount + 1 }
  else v

theorem takePulse_eq (ch : Channel) (s : State) : s.takePulse ch =
    match s.station.config with
    | some c => (pulsed ch s).evaluateMarks c
    | none => pulsed ch s := by
  unfold State.takePulse pulsed
  rw [standAfterPulse_eq]
  by_cases hstall : s.stand.encoderStall = true
  · rw [if_pos hstall, if_pos hstall]
    unfold State.encoderResumes
    cases s.stand.sincePulse <;> rfl
  · have hkept : false = s.stand.encoderStall := (Bool.eq_false_of_not_eq_true hstall).symm
    rw [if_neg hstall, if_neg hstall, hkept] <;> rfl

theorem pulsed_kept (ch : Channel) (s : State) : (pulsed ch s).table = s.table ∧ (pulsed ch s).stand = s.standAfterPulse ch := by
  unfold pulsed
  dsimp only
  split
  · split <;> exact ⟨rfl, rfl⟩
  · exact ⟨rfl, rfl⟩

/-- Settles O46: the pulse, then the marks; where none is due nothing follows. -/
theorem pulseMovesThePositionAndEvaluatesTheMarks : Obligations.PulseMovesThePositionAndEvaluatesTheMarks := by
  refine ⟨fun ch s => ?_, fun s => rfl⟩
  intro v resumed w
  have hw : pulsed ch s = w := rfl
  have hpulse : exec (.encoderPulse ch) s = .next (s.takePulse ch) := rfl
  have hmarks (c : ConfigRecord) (hc : s.station.config = some c) : exec (.encoderPulse ch) s = .next (w.evaluateMarks c) := by
    rw [hpulse, takePulse_eq, hc, hw]
  refine ⟨fun hc => ?_, hmarks, fun c hc hdue => ?_⟩
  · rw [hpulse, takePulse_eq, hc, hw]
  · obtain ⟨htable, hstand⟩ := pulsed_kept ch s
    rw [hmarks c hc, evaluateMarks_of_none_due]
    rw [← hw, htable, hstand]
    exact hdue

end Sys2Proof.Proofs

/-! The load detector (Sections 5.5 and 5.6): what confirms a bite and a tail-out, and how a bite is verified. -/

namespace Sys2Proof.Proofs

open Sys2Proof.Machine

variable {s : State} {c : ConfigRecord} {x : Sample}

/-! ### The load of a sample (R95) -/

theorem loadAtLeast_iff (threshold : Half) (x : Sample) (s : State) :
    s.loadAtLeast threshold x = true ↔ if s.role = .stand then threshold.toNat ≤ x.force.toNat else x.detector = true := by
  unfold State.loadAtLeast
  split
  · exact decide_eq_true_iff
  · exact Iff.rfl

theorem not_loadAtLeast_iff (threshold : Half) (x : Sample) (s : State) :
    ¬ s.loadAtLeast threshold x = true ↔ if s.role = .stand then x.force.toNat < threshold.toNat else x.detector = false := by
  rw [loadAtLeast_iff]
  split
  · exact Nat.not_le
  · exact Bool.not_eq_true _ ▸ Iff.rfl

/-! ### The four detector states (R97, R98) -/

theorem detect_of_unloaded (h : s.detector.state = .unloaded) :
    s.detect c x = if s.loadAtLeast c.fOn x then s.withDetector (.onPending s.stand.pulse 1) else s := by
  unfold State.detect
  rw [h]

theorem detect_of_loaded (h : s.detector.state = .loaded) :
    s.detect c x = if s.loadAtLeast c.fOff x then s else s.withDetector (.offPending s.stand.pulse 1) := by
  unfold State.detect
  rw [h]

/-- A pending bite goes on, is confirmed, or is cancelled. Both criteria met, it is reported as one by distance (log 24). -/
theorem detect_of_onPending {p : Word} {n : Nat} (h : s.detector.state = .onPending p n) :
    s.detect c x =
      if s.loadAtLeast c.fOn x then
        if c.nOn.toNat ≤ distance s.stand.pulse p ∨ (s.stand.encoderStall = true ∧ 4 ≤ n + 1) then
          s.confirmBite c
            { stamp := p, force := x.force, speed := x.speed, byDistance := decide (c.nOn.toNat ≤ distance s.stand.pulse p) }
        else s.withDetector (.onPending p (n + 1))
      else s.withDetector .unloaded := by
  unfold State.detect
  rw [h]
  dsimp only
  split
  · by_cases hfar : c.nOn.toNat ≤ distance s.stand.pulse p
    · rw [if_pos hfar, if_pos (Or.inl hfar), decide_eq_true hfar]
    · rw [if_neg hfar, decide_eq_false hfar]
      exact if_congr (or_iff_right hfar).symm rfl rfl
  · rfl

theorem detect_of_offPending {p : Word} {n : Nat} (h : s.detector.state = .offPending p n) :
    s.detect c x =
      if s.loadAtLeast c.fOff x then s.withDetector .loaded
      else if c.nOff.toNat ≤ distance s.stand.pulse p ∨ (s.stand.encoderStall = true ∧ 4 ≤ n + 1) then s.confirmTail c p
      else s.withDetector (.offPending p (n + 1)) := by
  unfold State.detect
  rw [h]
  rfl

theorem confirmBite_of_running (h : s.station.state = .running) (b : BiteReport) :
    s.confirmBite c b = (s.withDetector .loaded).takeBite c b := if_pos h

theorem confirmBite_of_not_running (h : s.station.state ≠ .running) (b : BiteReport) :
    s.confirmBite c b = s.withDetector .loaded := if_neg h

theorem confirmTail_of_running (h : s.station.state = .running) (p : Word) :
    s.confirmTail c p = State.takeTail c p { s with detector := { state := .unloaded, verify := .idle } } := if_pos h

theorem confirmTail_of_not_running (h : s.station.state ≠ .running) (p : Word) :
    s.confirmTail c p = { s with detector := { state := .unloaded, verify := .idle } } := if_neg h

/-- Settles O48: detector state by detector state. -/
theorem detectorConfirmsByDistanceOrByCount : Obligations.DetectorConfirmsByDistanceOrByCount := by
  intro c x s on off goes
  have hon : s.loadAtLeast c.fOn x = true ↔ on := loadAtLeast_iff ..
  have hoff : ¬ s.loadAtLeast c.fOff x = true ↔ off := not_loadAtLeast_iff ..
  refine ⟨fun hd => ?_, fun p n hd => ?_, fun hd => ?_, fun p n hd => ?_⟩
  · rw [detect_of_unloaded hd]
    exact ⟨fun h => if_pos (hon.2 h), fun h => if_neg (mt hon.1 h)⟩
  · intro far counted b
    rw [detect_of_onPending hd]
    refine ⟨fun h => if_neg (mt hon.1 h), fun h hfar hcounted => ?_, fun h hpassed => ?_⟩
    · rw [if_pos (hon.2 h), if_neg (not_or.2 ⟨hfar, hcounted⟩)]
      rfl
    · rw [if_pos (hon.2 h), if_pos hpassed]
      exact ⟨fun hrun => confirmBite_of_running hrun b, fun hrun => confirmBite_of_not_running hrun b⟩
  · rw [detect_of_loaded hd]
    exact ⟨fun h => if_neg (hoff.2 h), fun h => if_pos (not_not.1 (mt hoff.1 h))⟩
  · intro passed
    rw [detect_of_offPending hd]
    refine ⟨fun h => if_pos (not_not.1 (mt hoff.1 h)), fun h hpassed => ?_, fun h hpassed => ?_⟩
    · rw [if_neg (hoff.2 h), if_neg hpassed]
      rfl
    · intro u
      rw [if_neg (hoff.2 h), if_pos hpassed]
      exact ⟨fun hrun => confirmTail_of_running hrun p, fun hrun => confirmTail_of_not_running hrun p⟩

/-! ### The verification (R71, R101) -/

theorem outsideBand_iff (low high : Nat) (force : Half) :
    outsideBand low high force = true ↔ force.toNat < low ∨ high < force.toNat := by
  rw [outsideBand, Bool.not_eq_true', ← Bool.not_eq_true, within_iff]
  omega

theorem takeVerification_of_InStandIs {k : Nat} {e : Entry} (h : s.InStandIs k e) (firstOut secondOut : Bool) :
    s.takeVerification firstOut secondOut =
      if firstOut || secondOut then
        State.rampOut (State.raise .biteSuspect e.tag (BitVec.ofNat 16 (firstOut.toNat + 2 * secondOut.toNat))
          { s with table := s.table.set k { e with verification := .suspect, age := 0 } })
      else { s with table := s.table.set k { e with verification := .verified, age := 0 } } := by
  unfold State.takeVerification
  rw [inStand?_of_InStandIs h, inStandSlot_of_InStandIs h]
  dsimp only
  rw [Laws.writeEntry_eq s k e _ h.1, Laws.writeEntry_eq s k e _ h.1]

/-- Settles O49: the two forces are judged, and the entry and the trim are told. -/
theorem verificationJudgesBothForces : Obligations.VerificationJudgesBothForces := by
  refine fun c x s => ⟨fun hidle => ?_, fun first low high p hwait => ⟨fun hnear => ?_, fun k e hfar he => ?_⟩⟩
  · unfold State.verifySample
    rw [hidle]
  · unfold State.verifySample
    rw [hwait]
    exact if_neg (Nat.not_le.2 hnear)
  · intro outside judged
    have hjudged : s.verifySample c x =
        State.takeVerification (outsideBand low high first) (outsideBand low high x.force)
          { s with detector := { s.detector with verify := .idle } } := by
      unfold State.verifySample
      rw [hwait]
      exact if_pos hfar
    rw [hjudged, takeVerification_of_InStandIs (s := { s with detector := { s.detector with verify := .idle } }) he]
    have hin {f : Half} (h : ¬ outside f) : outsideBand low high f = false :=
      Bool.eq_false_of_not_eq_true (mt (outsideBand_iff low high f).1 h)
    have hout {f : Half} (h : outside f) : outsideBand low high f = true := (outsideBand_iff low high f).2 h
    refine ⟨fun h1 h2 => ?_, fun h1 h2 => ?_, fun h1 h2 => ?_, fun h1 h2 => ?_⟩
    · rw [hin h1, hin h2]
      rfl
    · rw [hout h1, hin h2]
      rfl
    · rw [hin h1, hout h2]
      rfl
    · rw [hout h1, hout h2]
      rfl

end Sys2Proof.Proofs

/-! The quantities of the marks (Sections 1.3, 1.4 and 6.2 to 6.4): rounded travel, half-width, and what an entry gives. -/

namespace Sys2Proof.Proofs

open Sys2Proof.Machine

variable {c : ConfigRecord} {position : BitVec 4} {e : Entry}

/-! ### Rounding (R104, R105, R108, R109, R111) -/

theorem expectedHead_le_iff {upp : Nat} (h : 0 < upp) (lDn slip p : Nat) :
    expectedHead lDn upp slip ≤ p ↔ lDn * 10 ^ 9 ≤ p * (upp * (1000 + slip)) :=
  Laws.ceilDiv_le_iff _ _ _ (Nat.mul_pos h (by omega))

theorem expectedTail_le_iff {upp hOwn : Nat} (h : 0 < upp) (hown : 0 < hOwn) (lUp hUp slip p : Nat) :
    expectedTail lUp hUp hOwn upp slip ≤ p ↔ lUp * 10 ^ 9 * hUp ≤ p * (upp * (1000 + slip) * hOwn) :=
  Laws.ceilDiv_le_iff _ _ _ (Nat.mul_pos (Nat.mul_pos h (by omega)) hown)

theorem halfWidth_le_iff (p t w : Nat) : halfWidth p t ≤ w ↔ 4 ≤ w ∧ p * t ≤ 1000 * w := by
  unfold halfWidth
  rw [max_le_iff, Laws.ceilDiv_le_iff _ _ _ (by decide), Nat.mul_comm w]

/-- The range of the head travel (Table 6.2). -/
theorem expectedHead_range {lDn upp slip : Nat} (hupp : 10000 ≤ upp) (hupp' : upp ≤ 8000000) (hl : 1000 ≤ lDn) (hl' : lDn ≤ 12000)
    (hslip : slip ≤ 150) : 109 ≤ expectedHead lDn upp slip ∧ expectedHead lDn upp slip ≤ 1200000 := by
  have hpos : 0 < upp := by omega
  have hlow : 10000 * 1000 ≤ upp * (1000 + slip) := Nat.mul_le_mul hupp (by omega)
  have hhigh : upp * (1000 + slip) ≤ 8000000 * 1150 := Nat.mul_le_mul hupp' (by omega)
  have hmost : expectedHead lDn upp slip ≤ 1200000 ↔ lDn * 10 ^ 9 ≤ 1200000 * (upp * (1000 + slip)) := expectedHead_le_iff hpos ..
  have hleast : expectedHead lDn upp slip ≤ 108 ↔ lDn * 10 ^ 9 ≤ 108 * (upp * (1000 + slip)) := expectedHead_le_iff hpos ..
  generalize expectedHead lDn upp slip = p at hmost hleast ⊢
  generalize upp * (1000 + slip) = carried at hlow hhigh hmost hleast
  norm_num at hlow hhigh hmost hleast
  omega

/-- The range of the half-width, and of window low (Table 6.2). -/
theorem halfWidth_range {p t : Nat} (hp : 109 ≤ p) (hp' : p ≤ 1200000) (ht : t ≤ 200) :
    4 ≤ halfWidth p t ∧ halfWidth p t ≤ 240000 ∧ 87 ≤ p - halfWidth p t ∧ halfWidth p t ≤ p := by
  have hprod : p * t ≤ p * 200 := Nat.mul_le_mul_left p ht
  have hfour : 4 ≤ halfWidth p t := le_max_left ..
  have hmost : halfWidth p t ≤ 240000 := (halfWidth_le_iff ..).2 ⟨by omega, by omega⟩
  have hlow : halfWidth p t ≤ p - 87 := (halfWidth_le_iff ..).2 ⟨by omega, by omega⟩
  omega

/-! ### The quantities an entry gives (R7, R107, R110, R121) -/

theorem ownPass_of_window {w : PassWindow} (h : e.window = some w) : e.ownPass = w.own := by
  rw [Entry.ownPass, h]
  rfl

theorem ownPass_of_no_window (h : e.window = none) : e.ownPass = none := by
  rw [Entry.ownPass, h]
  rfl

theorem expectedForce_of_own {own : PassEntry} (h : e.ownPass = some own) :
    e.expectedForce = if own.expectedForce = 0 then none else some own.expectedForce.toNat := by
  rw [Entry.expectedForce, h]

theorem expectedForce_of_no_own (h : e.ownPass = none) : e.expectedForce = none := by
  rw [Entry.expectedForce, h]

theorem headMarksAt_entry {w : PassWindow} (hw : e.window = some w) (hp : position = 0) :
    e.headMarksAt c position = some (headMarksOf c 0) := by
  rw [Entry.headMarksAt, Entry.sOwn, if_pos ((Laws.roleOf_entry position).2 hp), hw]
  rfl

theorem headMarksAt_not_entry (hp : position ≠ 0) :
    e.headMarksAt c position = e.ownPass.map fun own => headMarksOf c own.forwardSlip.toNat := by
  rw [Entry.headMarksAt, Entry.sOwn, if_neg (mt (Laws.roleOf_entry position).1 hp), Option.map_map]
  rfl

theorem headMarksAt_of_no_window (h : e.window = none) : e.headMarksAt c position = none := by
  by_cases hp : position = 0
  · rw [Entry.headMarksAt, Entry.sOwn, if_pos ((Laws.roleOf_entry position).2 hp), h]
    rfl
  · rw [headMarksAt_not_entry hp, ownPass_of_no_window h]
    rfl

theorem tailMarksAt_of_no_own (h : e.ownPass = none) : e.tailMarksAt c position = none := by
  unfold Entry.tailMarksAt
  split
  · rw [h]
    cases e.hUp position <;> rfl
  · rfl

theorem stampCounts_iff (e : Entry) : e.tailStamp.any (fun t => !t.void) = true ↔ ∃ t, e.tailStamp = some t ∧ t.void = false := by
  cases e.tailStamp with
  | none => simp
  | some t => simp

theorem tailMarksAt_of_not_counted (h : position = 0 ∨ 9 ≤ position.toNat ∨ e.tailStamp = none ∨
    ∃ t, e.tailStamp = some t ∧ t.void = true) : e.tailMarksAt c position = none := by
  refine if_neg ?_
  rw [Laws.roleOf_stand, stampCounts_iff]
  rintro ⟨⟨hlow, hhigh⟩, t, ht, hvoid⟩
  rcases h with rfl | h | h | ⟨t', ht', hvoid'⟩
  · simp at hlow
  · omega
  · simp [h] at ht
  · obtain rfl : t = t' := Option.some.inj (ht.symm.trans ht')
    simp [hvoid] at hvoid'

theorem tailMarksAt_of_counted {own : PassEntry} {t : TailStamp} {h : Nat} (hlow : 1 ≤ position.toNat) (hhigh : position.toNat ≤ 8)
    (ht : e.tailStamp = some t) (hvoid : t.void = false) (hown : e.ownPass = some own) (hup : e.hUp position = some h) :
    e.tailMarksAt c position = some (tailMarksOf c h own.exitThickness.toNat own.forwardSlip.toNat) := by
  unfold Entry.tailMarksAt
  rw [if_pos ⟨(Laws.roleOf_stand position).2 ⟨hlow, hhigh⟩, (stampCounts_iff e).2 ⟨t, ht, hvoid⟩⟩, hup, hown]

theorem hUp_of_first {bar : Half} (hp : position = 1) (hbar : e.barThickness = some bar) : e.hUp position = some bar.toNat := by
  rw [Entry.hUp, if_pos hp, hbar]
  rfl

theorem hUp_of_later {w : PassWindow} {up : PassEntry} (hp : 2 ≤ position.toNat) (hw : e.window = some w) (hup : w.up = some up) :
    e.hUp position = some up.exitThickness.toNat := by
  have hne : position ≠ 1 := by
    rintro rfl
    simp at hp
  rw [Entry.hUp, if_neg hne, hw]
  show w.up.map _ = _
  rw [hup]
  rfl

/-- Settles O53: the rounding of each travel, then the quantities of each entry. -/
theorem marksAreTheRoundedTravel : Obligations.MarksAreTheRoundedTravel := by
  refine ⟨fun lDn upp slip p h => expectedHead_le_iff h lDn slip p, fun lUp hUp hOwn upp slip p h hown => expectedTail_le_iff h hown lUp hUp slip p,
    halfWidth_le_iff, fun c slip => ⟨rfl, fun hupp hupp' hl hl' _ ht hslip => ?_⟩, fun c hUp hOwn slip => rfl, fun c position e =>
    ⟨fun hw => ⟨headMarksAt_of_no_window hw, tailMarksAt_of_no_own (ownPass_of_no_window hw),
      expectedForce_of_no_own (ownPass_of_no_window hw)⟩, tailMarksAt_of_not_counted, fun w hw => ⟨headMarksAt_entry hw, fun hown => ?_,
      fun own hown => ?_⟩⟩⟩
  · obtain ⟨hp, hp'⟩ := expectedHead_range hupp hupp' hl hl' hslip
    exact ⟨hp, hp', halfWidth_range hp hp' ht⟩
  · have hpass : e.ownPass = none := (ownPass_of_window hw).trans hown
    refine ⟨expectedForce_of_no_own hpass, fun hp => ?_⟩
    rw [headMarksAt_not_entry hp, hpass]
    rfl
  · have hpass : e.ownPass = some own := (ownPass_of_window hw).trans hown
    refine ⟨fun hp => ?_, fun hforce => ?_, fun hforce => ?_, fun t ht hvoid hhigh => ⟨fun bar hp hbar => ?_, fun up hp hup => ?_⟩⟩
    · rw [headMarksAt_not_entry hp, hpass]
      rfl
    · rw [expectedForce_of_own hpass, if_pos hforce]
    · rw [expectedForce_of_own hpass, if_neg hforce]
    · exact tailMarksAt_of_counted (by simp [hp]) hhigh ht hvoid hpass (hUp_of_first hp hbar)
    · exact tailMarksAt_of_counted (by omega) hhigh ht hvoid hpass (hUp_of_later hp hw hup)

end Sys2Proof.Proofs

/-! The own stand (Sections 4.6, 5.6, 6.7 and 8.8): which entry a bite belongs to, what the bite does, and what the tail-out does. -/

namespace Sys2Proof.Proofs

open Sys2Proof.Machine

variable {s : State} {c : ConfigRecord} {k : Nat} {e : Entry} {b : BiteReport} {candidate : Half}

theorem hasBiteWindow_iff (c : ConfigRecord) (position : BitVec 4) : hasBiteWindow c position = true ↔
    position = 0 ∨ (position.toNat ≤ 8 ∧ (position.toNat < c.trainSize.toNat ∨ c.exitPresent = 1)) := by
  have hzero : position = 0 ↔ position.toNat = 0 := BitVec.toNat_eq
  unfold hasBiteWindow
  cases hrole : roleOf position with
  | entry => simp [(Laws.roleOf_entry position).1 hrole]
  | stand =>
    obtain ⟨hlow, hhigh⟩ := (Laws.roleOf_stand position).1 hrole
    have hne : position ≠ 0 := mt hzero.1 (by omega)
    show (decide (position.toNat < c.trainSize.toNat) || c.exitPresent == 1) = true ↔ _
    simp only [hne, hhigh, false_or, true_and, Bool.or_eq_true, decide_eq_true_iff, beq_iff_eq]
  | exit =>
    have hp := (Laws.roleOf_exit position).1 hrole
    simp only [Bool.false_eq_true, false_iff, hzero]
    omega
  | invalid =>
    have hp := (Laws.roleOf_invalid position).1 hrole
    simp only [Bool.false_eq_true, false_iff, hzero]
    omega

/-! ### The entry at its own bite (Table 4.4, R70, R120) -/

theorem statusAtBite_eq (c : ConfigRecord) (e : Entry) (s : State) : s.statusAtBite c e = s.statusAt c e.window.isSome := by
  unfold State.statusAtBite State.statusAt
  exact if_congr (hasBiteWindow_iff ..) rfl rfl

/-- The fields of the entry that its own bite writes. -/
def advanced (c : ConfigRecord) (stamp : Word) (s : State) (e : Entry) : Entry :=
  { e.advance (if e.flags.tailSeen then .tailApproaching else .inStand) with
    biteStamp := some stamp, downstream := s.statusAtBite c e }

/-- The entry once its marks are computed. -/
def marked (c : ConfigRecord) (s : State) (e : Entry) : Entry :=
  { e with
    headMarks := if e.downstream = .pending then e.headMarksAt c s.station.position else e.headMarks
    tailMarks := if e.flags.tailSeen = true ∧ s.stand.encoderStall = false then e.tailMarksAt c s.station.position else e.tailMarks
    age := 0 }

theorem marked_advanced (c : ConfigRecord) (stamp : Word) (s : State) (e : Entry) :
    marked c s { advanced c stamp s e with age := 0 } = e.bitten c stamp s := by
  unfold advanced Entry.advance
  rw [statusAtBite_eq, moved_eq_afterAdvance]
  rfl

/-! ### What the other blocks do at a bite (R70, R100, R157) -/

/-- A bite apart from what it does to its entry: telegram, event, report period timer, verification. -/
def biteTold (c : ConfigRecord) (e : Entry) (candidate : Half) (b : BiteReport) (s : State) : State :=
  let v := (s.queueTelegram (.headBite e.tag (e.origin == .anonymous) b.speed)).raise .ownBite e.tag candidate
  { v with
    trim := if s.role = .stand then { v.trim with reportTimer := some c.reportPeriod.toNat } else v.trim
    detector := match e.expectedForce with
      | some force =>
        let half := force * c.forceTolerance.toNat / 1000
        if s.role = .stand ∧ b.byDistance = true then
          { v.detector with verify := .awaiting b.force (force - half) (force + half) b.stamp }
        else v.detector
      | none => v.detector }

theorem beginVerification_eq (c : ConfigRecord) (e : Entry) (b : BiteReport) (s : State) : s.beginVerification c e b = { s with
    detector := match e.expectedForce with
      | some force =>
        let half := force * c.forceTolerance.toNat / 1000
        if s.role = .stand ∧ b.byDistance = true then
          { s.detector with verify := .awaiting b.force (force - half) (force + half) b.stamp }
        else s.detector
      | none => s.detector } := by
  unfold State.beginVerification
  cases e.expectedForce with
  | none => rfl
  | some force =>
    dsimp only
    split <;> rfl

/-- The blocks are told one after the other. -/
theorem biteTold_eq (c : ConfigRecord) (e : Entry) (candidate : Half) (b : BiteReport) (s : State) :
    let v := (s.queueTelegram (.headBite e.tag (e.origin == .anonymous) b.speed)).raise .ownBite e.tag candidate
    let w := if v.role = .stand then { v with trim := { v.trim with reportTimer := some c.reportPeriod.toNat } } else v
    w.beginVerification c e b = biteTold c e candidate b s := by
  intro v w
  have hrole : v.role = s.role :=
    congrArg (fun st : Station => roleOf st.position) (Laws.queueTelegram_station (.headBite e.tag (e.origin == .anonymous) b.speed) s)
  have hw : w = { v with
      trim := if s.role = .stand then { v.trim with reportTimer := some c.reportPeriod.toNat } else v.trim } := by
    dsimp only [w]
    rw [hrole]
    split <;> rfl
  rw [beginVerification_eq, hw]
  show State.mk .. = State.mk ..
  have hrole' : State.role { v with
      trim := if s.role = .stand then { v.trim with reportTimer := some c.reportPeriod.toNat } else v.trim } = s.role := hrole
  rw [hrole']

theorem queueTelegram_withTable (t : Telegram) (table : List Entry) (s : State) :
    State.queueTelegram t { s with table := table } = { s.queueTelegram t with table := table } := by
  unfold State.queueTelegram
  dsimp only
  split
  · rfl
  · split
    · split <;> rfl
    · split <;> rfl
    · rfl
    · rfl

/-- What the other blocks do does not look at the table. -/
theorem biteTold_withTable (table : List Entry) :
    biteTold c e candidate b { s with table := table } = { biteTold c e candidate b s with table := table } := by
  unfold biteTold
  rw [queueTelegram_withTable]
  rfl

theorem biteTold_table (c : ConfigRecord) (e : Entry) (candidate : Half) (b : BiteReport) (s : State) :
    (biteTold c e candidate b s).table = s.table :=
  Laws.queueTelegram_table ..

theorem biteTold_station (c : ConfigRecord) (e : Entry) (candidate : Half) (b : BiteReport) (s : State) :
    (biteTold c e candidate b s).station = s.station :=
  Laws.queueTelegram_station ..

theorem biteTold_stand (c : ConfigRecord) (e : Entry) (candidate : Half) (b : BiteReport) (s : State) :
    (biteTold c e candidate b s).stand = s.stand :=
  Laws.queueTelegram_stand ..

theorem bittenAt_eq (c : ConfigRecord) (k : Nat) (e : Entry) (candidate : Half) (b : BiteReport) (s : State) :
    s.bittenAt c k e candidate b = biteTold c e candidate b { s with table := s.table.set k (e.bitten c b.stamp s) } := rfl

/-! ### The bite (R70) -/

theorem writeEntry_set {u : State} {table : List Entry} {f : Entry} (hk : k < table.length) (htable : u.table = table.set k f)
    (g : Entry → Entry) : u.writeEntry k g = { u with table := table.set k { g f with age := 0 } } := by
  have hat : u.table[k]? = some f := by
    rw [htable]
    exact List.getElem?_set_self hk
  rw [Laws.writeEntry_eq u k f g hat, htable, List.set_set]

theorem biteEntry_eq (c : ConfigRecord) (k : Nat) (e : Entry) (candidate : Half) (b : BiteReport) (s : State) :
    s.biteEntry c k e candidate b =
      (biteTold c e candidate b (s.writeEntry k fun f => { f.advance (if f.flags.tailSeen then .tailApproaching else .inStand) with
        biteStamp := some b.stamp, downstream := s.statusAtBite c e })).marksAtBite c k := by
  rw [← biteTold_eq]
  rfl

/-- The marks are computed, and those already passed are reported. -/
theorem marksAtBite_eq {u : State} {table : List Entry} {f : Entry} (hk : k < table.length) (htable : u.table = table.set k f) :
    u.marksAtBite c k = State.reportMarks c k
      (inReportOrder ((marked c u f).headDue u.stand.pulse ++ (marked c u f).tailDue u.stand.pulse))
      { u with table := table.set k (marked c u f) } := by
  have hat : (table.set k (marked c u f))[k]? = some (marked c u f) := List.getElem?_set_self hk
  unfold State.marksAtBite
  dsimp only
  rw [writeEntry_set hk htable]
  unfold State.evaluateEntry
  show (match (table.set k (marked c u f))[k]? with | none => _ | some e => _) = _
  rw [hat]
  rfl

theorem biteEntry_eq_bite (he : s.table[k]? = some e) : s.biteEntry c k e candidate b = s.bite c k e candidate b := by
  obtain ⟨hk, -⟩ := List.getElem?_eq_some_iff.1 he
  have hwrite : s.writeEntry k (fun f => { f.advance (if f.flags.tailSeen then .tailApproaching else .inStand) with
        biteStamp := some b.stamp, downstream := s.statusAtBite c e }) =
      { s with table := s.table.set k { advanced c b.stamp s e with age := 0 } } := Laws.writeEntry_eq s k e _ he
  have hmarked (table : List Entry) :
      marked c { biteTold c e candidate b s with table := table } { advanced c b.stamp s e with age := 0 } = e.bitten c b.stamp s := by
    rw [← marked_advanced]
    unfold marked
    dsimp only
    rw [biteTold_station, biteTold_stand]
  have hbitten : s.bittenAt c k e candidate b =
      { biteTold c e candidate b s with table := s.table.set k (e.bitten c b.stamp s) } := biteTold_withTable _
  rw [biteEntry_eq, hwrite, biteTold_withTable, marksAtBite_eq hk rfl, hmarked, State.bite, hbitten]
  dsimp only
  rw [biteTold_stand]

/-! ### Whose bite it is (R69) -/

theorem takeBite_of_approaching (h : s.Oldest (fun e => e.phase = .approaching) k e) : s.takeBite c b = s.bite c k e 0 b := by
  unfold State.takeBite
  rw [oldest_of_Oldest h]
  dsimp only
  rw [h.1]
  exact biteEntry_eq_bite h.1

theorem takeBite_of_announced (hnone : ∀ e ∈ s.table, e.phase ≠ .approaching) (h : s.Oldest (fun e => e.phase = .announced) k e) :
    s.takeBite c b =
      if s.station.position = 0 then s.bite c k e 1 b else (s.raise .upstreamNotSeen e.tag 0).bite c k e 1 b := by
  unfold State.takeBite
  rw [oldest_eq_none_of_forall hnone, oldest_of_Oldest h]
  dsimp only
  rw [h.1]
  dsimp only
  by_cases hp : s.station.position = 0
  · rw [if_pos hp, if_pos ((role_eq_entry_iff s).2 hp), biteEntry_eq_bite h.1]
  · rw [if_neg hp, if_neg (mt (role_eq_entry_iff s).1 hp), biteEntry_eq_bite (s := s.raise .upstreamNotSeen e.tag 0) h.1]

/-- No piece is known to come: the bite makes a new anonymous entry. -/
theorem takeBite_of_none (happroaching : ∀ e ∈ s.table, e.phase ≠ .approaching) (hannounced : ∀ e ∈ s.table, e.phase ≠ .announced)
    {u : State} (h : s.makeRoom = some u) : s.takeBite c b =
      State.bite c u.table.length namelessEntry 2 b (State.raise .anonymousPiece 0 (BitVec.ofNat 16 u.table.length)
        { u with table := u.table ++ [namelessEntry] }) := by
  have hcreate : s.createEntry anonymousEntry = .ok { u with table := u.table ++ [namelessEntry] } := by
    rw [createEntry_of_makeRoom (Or.inl rfl), h]
    rfl
  have hslot : (u.table ++ [namelessEntry]).length - 1 = u.table.length := by simp
  unfold State.takeBite
  rw [oldest_eq_none_of_forall happroaching, oldest_eq_none_of_forall hannounced, hcreate]
  dsimp only
  rw [hslot]
  refine biteEntry_eq_bite ?_
  show (u.table ++ [namelessEntry])[u.table.length]? = _
  rw [List.getElem?_append_right le_rfl, Nat.sub_self]
  rfl

/-- Settles O50: the oldest APPROACHING entry, else the oldest ANNOUNCED one, else a new one. -/
theorem biteIsTakenByTheForemostPiece : Obligations.BiteIsTakenByTheForemostPiece := by
  refine fun c b s => ⟨fun k e h => takeBite_of_approaching h, fun happroaching => ⟨fun k e h => ⟨fun hp => ?_, fun hp => ?_⟩,
    fun hannounced => ⟨fun hroom => takeBite_of_none happroaching hannounced (makeRoom_of_room hroom), fun k e hfull h => ?_⟩⟩⟩
  · rw [takeBite_of_announced happroaching h, if_pos hp]
  · rw [takeBite_of_announced happroaching h, if_neg hp]
  · rw [takeBite_of_none happroaching hannounced (makeRoom_of_Oldest hfull h), ← length_eraseIdx_of_Oldest h]

/-! ### The tail-out (R72, R119, R127, R133, R156) -/

theorem earlyTail_of_early {m : TailMarks} {p : TailStamp} {off : Word} (hm : e.tailMarks = some m) (hp : e.tailStamp = some p)
    (h : distance off p.position < m.tailLow) : e.earlyTail off = some (distance off p.position) := by
  unfold Entry.earlyTail
  rw [hm, hp]
  exact if_pos h

theorem earlyTail_of_not_early {off : Word} (h : e.tailMarks = none ∨
    ∃ m p, e.tailMarks = some m ∧ e.tailStamp = some p ∧ m.tailLow ≤ distance off p.position) : e.earlyTail off = none := by
  unfold Entry.earlyTail
  rcases h with hm | ⟨m, p, hm, hp, hlate⟩
  · rw [hm]
  · rw [hm, hp]
    exact if_neg (Nat.not_lt.2 hlate)

theorem looperLoadOff_eq (c : ConfigRecord) (s : State) : s.looperLoadOff c =
    if s.looper.state = .armed then { s with looper := { s.looper with state := .parked } } else s.lowered c := by
  rw [← lowerLooper_eq_lowered]
  unfold State.looperLoadOff
  cases hl : s.looper.state <;> simp [State.lowerLooper, hl]

/-- s once the in-stand entry has let its piece go, before TAIL_OUT is queued. -/
def letGo (c : ConfigRecord) (k : Nat) (e : Entry) (s : State) : State :=
  if hasBiteWindow c s.station.position then
    { s with table := s.table.set k { e with phase := .cleared, origin := e.origin.moved, tailMarks := none, age := 0 } }
  else State.raise .pieceRetired e.tag (e.downstream.code.setWidth 16) { s with table := s.table.eraseIdx k }

/-- What follows a tail-out once its event is raised. -/
def tailEnded (c : ConfigRecord) (u : State) : State :=
  let v := if u.looper.state = .armed then { u with looper := { u.looper with state := .parked } } else u.lowered c
  { v with trim := { state := .off, target := 0, current := 0, ageTimer := none, saturated := false, reportTimer := none } }

theorem takeTail_of_InStandIs (h : s.InStandIs k e) (off : Word) : s.takeTail c off =
    let v := (letGo c k e s).queueTelegram (.tailOut e.tag (e.origin == .anonymous))
    tailEnded c (match e.earlyTail off with
      | some d => v.raise .tailEarly e.tag (sat16 d)
      | none => v.raise .ownTailOut e.tag 0) := by
  have hgo : (if hasBiteWindow c s.station.position then s.writeEntry k fun e => { e.advance .cleared with tailMarks := none }
      else s.retireEntry k e) = letGo c k e s := by
    rw [Laws.writeEntry_eq s k e _ h.1]
    unfold Entry.advance
    rw [moved_eq_afterAdvance]
    rfl
  unfold State.takeTail
  rw [inStandSlot_of_InStandIs h]
  dsimp only
  rw [h.1]
  dsimp only
  rw [hgo, looperLoadOff_eq]
  rfl

/-- Settles O51: the entry, then the telegram and the event, then the looper and the trim. -/
theorem tailOutLetsThePieceGo : Obligations.TailOutLetsThePieceGo := by
  intro c k e off s h kept cleared retired ended
  have hcleared (hkept : kept) : letGo c k e s = cleared := if_pos ((hasBiteWindow_iff ..).2 hkept)
  have hretired (hkept : ¬ kept) : letGo c k e s = retired := if_neg (mt (hasBiteWindow_iff ..).1 hkept)
  refine ⟨fun m p hm hp hearly => ?_, fun hlate => ?_⟩
  · intro event
    rw [takeTail_of_InStandIs h, earlyTail_of_early hm hp hearly]
    refine ⟨fun hkept => ?_, fun hkept => ?_⟩
    · rw [hcleared hkept]
      rfl
    · rw [hretired hkept]
      rfl
  · intro event
    rw [takeTail_of_InStandIs h, earlyTail_of_not_early hlate]
    refine ⟨fun hkept => ?_, fun hkept => ?_⟩
    · rw [hcleared hkept]
      rfl
    · rw [hretired hkept]
      rfl

end Sys2Proof.Proofs

/-! Samples (Sections 5.2, 5.3, 7.2 and 11.3): the record on the stand link, the blocks that take the sample, and the answer. -/

namespace Sys2Proof.Proofs

open Sys2Proof.Machine

variable {s : State} {c : ConfigRecord} {x : Sample}

/-! ### Sample and command records (R87, R90, Table 11.3) -/

theorem sampleOfBytes_of_length {bytes : List Byte} (h : bytes.length ≠ 12) : sampleOfBytes (0xA5 :: bytes) = none := by
  unfold sampleOfBytes
  split
  · rename_i heq
    obtain ⟨-, rfl⟩ := List.cons.inj heq
    exact absurd rfl h
  · rfl

theorem sampleOfBytes_of_check {bytes : List Byte} (hlen : bytes.length = 12) (h : bytes.drop 10 ≠ bytes16 (crc16 (bytes.take 10))) :
    sampleOfBytes (0xA5 :: bytes) = none := by
  match bytes, hlen with
  | [q, f1, f2, v1, v2, a1, a2, t1, t2, fl, c1, c2], _ =>
    refine if_neg ?_
    rintro ⟨-, hcheck⟩
    refine h ?_
    show [c1, c2] = bytes16 (crc16 [q, f1, f2, v1, v2, a1, a2, t1, t2, fl])
    rw [hcheck, Laws.bytes16_half]

/-- The detector bit of the flags byte is there, whatever the bits beside it. -/
theorem flags_detector (unused : BitVec 7) (d : Bool) : (unused ++ BitVec.ofBool d : BitVec 8).getLsbD 0 = d := by
  rw [BitVec.getLsbD_append, if_pos Nat.one_pos]
  cases d <;> rfl

theorem sampleOfBytes_record (x : Sample) (unused : BitVec 7) : sampleOfBytes (x.record unused) = some x := by
  simp only [Sample.record, bytes16, List.cons_append, List.nil_append, sampleOfBytes, sampleStart, Laws.half_bytes, flags_detector,
    and_self, if_true]

theorem flagByte_eq (d : Bool) : flagByte d = ((0 : BitVec 7) ++ BitVec.ofBool d : BitVec 8) := by
  cases d <;> rfl

theorem sample_bytes_eq (x : Sample) : x.bytes = x.record 0 := by
  unfold Sample.bytes Sample.record Sample.fields
  rw [flagByte_eq]
  rfl

theorem looper_code_eq (l : LooperCommand) :
    l.code = BitVec.ofNat 8 ([LooperCommand.park, .arm, .lift, .regulate, .lower].idxOf l) := by
  cases l <;> rfl

/-! ### The stand link bit for bit (R180, log 29) -/

/-- A byte in between a start bit and what stands in the place of its stop bit. -/
def tenBits (b : Byte) (stop : Bool) : List Bool := [false] ++ (List.range 8).map (fun i => b.getLsbD i) ++ [stop]

theorem linkBytes_tenBits (b : Byte) (stop : Bool) (line : List Bool) : linkBytes (tenBits b stop ++ line) = b :: linkBytes line := by
  show bitsByte [_, _, _, _, _, _, _, _] :: linkBytes line = _
  exact congrArg (· :: _) (Laws.bitsByte_bits b)

theorem linkBytes_record (record : List (Byte × Bool)) (rest : Nat) :
    linkBytes ((record.flatMap fun r => tenBits r.1 r.2) ++ List.replicate rest true) = record.map Prod.fst := by
  induction record with
  | nil => exact Laws.linkBytes_rest rest
  | cons r record ih => rw [List.flatMap_cons, List.append_assoc, linkBytes_tenBits, ih, List.map_cons]

/-! ### The answer (R90, R125) -/

theorem commands_iff (u : State) : u.commands = true ↔
    (u.station.state = .running ∨ u.station.state = .stopped) ∧ (u.station.config.any fun c => u.hasLooper c) = true := by
  simp [State.commands]

theorem tensionSent_eq (u : State) : u.tensionSent =
    if u.looper.state = .regulating then ((u.inStand?.bind Entry.ownPass).map PassEntry.tensionRef).getD 0 else 0 := by
  unfold State.tensionSent
  refine if_congr Iff.rfl ?_ rfl
  cases u.inStand? with
  | none => rfl
  | some e =>
    show e.tensionRef.getD 0 = (e.ownPass.map PassEntry.tensionRef).getD 0
    unfold Entry.tensionRef
    cases e.ownPass with
    | none => rfl
    | some own =>
      dsimp only
      split
      · rename_i href
        exact href.symm
      · rfl

theorem commandRecord_eq_answerTo (n : Byte) (u : State) : u.commandRecord n = u.answerTo n := by
  unfold State.commandRecord State.answerTo
  rw [tensionSent_eq]
  by_cases h : u.commands = true
  · simp only [h, (commands_iff u).1 h, if_true, true_and, and_self]
  · simp only [h, mt (commands_iff u).2 h, if_false, false_and] <;> rfl

/-! ### The sample is taken (R88, R89, R92) -/

/-- s once a sample is stored and a standing sample loss has ended, before the blocks take it. -/
def sampled (x : Sample) (s : State) : State :=
  let v : State := { s with stand := s.standAfterSample x }
  if s.stand.sampleLoss then v.raise .sampleResumed 0 (BitVec.ofNat 16 (min 65535 s.stand.sinceSample)) else v

theorem storeSample_eq (x : Sample) (s : State) :
    s.storeSample x = { s with stand := { s.standAfterSample x with sampleLoss := s.stand.sampleLoss } } := by
  have hstand : (s.storeSample x).stand = { s.standAfterSample x with sampleLoss := s.stand.sampleLoss } := by
    unfold State.storeSample State.standAfterSample State.sampleRestarted missedSamples missedBefore
    cases s.station.config <;> cases s.stand.expect <;> rfl
  rw [← hstand]
  rfl

theorem storeSample_resumed (x : Sample) (s : State) :
    State.storeSample x (if s.stand.sampleLoss then s.samplesResume else s) = sampled x s := by
  unfold sampled
  by_cases hloss : s.stand.sampleLoss = true
  · rw [if_pos hloss, if_pos hloss, storeSample_eq]
    rfl
  · rw [if_neg hloss, if_neg hloss, storeSample_eq, Bool.eq_false_of_not_eq_true hloss]
    rfl

/-- s once its answer to a sample is sent. -/
def withAnswer (n : Byte) (s : State) : State := { s with stand := { s.stand with sent := some (s.answerTo n) } }

theorem exec_sampleRecord (x : Sample) (unused : BitVec 7) (s : State) :
    exec (.sampleRecord (x.record unused)) s = .next (withAnswer x.seq ((sampled x s).blocksTake x)) := by
  have htake : s.takeSample x = withAnswer x.seq ((sampled x s).blocksTake x) := by
    rw [← storeSample_resumed]
    unfold withAnswer
    rw [← commandRecord_eq_answerTo]
    rfl
  show execSampleRecord (x.record unused) s = _
  unfold execSampleRecord
  have hstart : (x.record unused).head? = some sampleStart := rfl
  rw [if_pos hstart, sampleOfBytes_record]
  dsimp only
  rw [htake]

theorem exec_sampleRecord_of_none {bytes : List Byte} (h : sampleOfBytes (0xA5 :: bytes) = none) (s : State) :
    exec (.sampleRecord (0xA5 :: bytes)) s = .next { s with stand := { s.stand with sampleErrors := satAdd s.stand.sampleErrors 1 } } := by
  show execSampleRecord _ s = _
  unfold execSampleRecord
  have hstart : ((0xA5 : Byte) :: bytes).head? = some sampleStart := rfl
  rw [if_pos hstart, h]

theorem sampled_station (x : Sample) (s : State) : (sampled x s).station = s.station := by
  unfold sampled
  dsimp only
  split <;> rfl

theorem sampled_looper_trim (x : Sample) (s : State) : (sampled x s).looper = s.looper ∧ (sampled x s).trim = s.trim := by
  unfold sampled
  dsimp only
  split <;> exact ⟨rfl, rfl⟩

/-! ### The blocks take it (R89, R96) -/

theorem blocksTake_of_taking (hc : s.station.config = some c) (hstate : s.station.state = .running ∨ s.station.state = .stopped) :
    s.blocksTake x = (((s.verifySample c x).detect c x).looperSample c x).stepTrim c := by
  unfold State.blocksTake
  rw [hc]
  dsimp only
  rw [State.detectorSample, if_pos hstate]

theorem stepTrim_of_off (h : s.trim.state = .off) : s.stepTrim c = s := by
  unfold State.stepTrim
  rw [h]

/-- In the other states a sample moves no block: the detector is not to look at it, the looper is PARKED and the trim OFF. -/
theorem blocksTake_of_resting (hstate : ¬ (s.station.state = .running ∨ s.station.state = .stopped))
    (h : s.station.config = none ∨ (s.looper.state = .parked ∧ s.trim.state = .off)) : s.blocksTake x = s := by
  unfold State.blocksTake
  cases hc : s.station.config with
  | none => rfl
  | some c =>
    rcases h with hnone | ⟨hl, ht⟩
    · simp [hc] at hnone
    · dsimp only
      rw [State.detectorSample, if_neg hstate, looperSample_of_resting (Or.inl hl), stepTrim_of_off ht]

/-- Settles O47: the record, the answer and the link, then the blocks in their order. -/
theorem sampleIsTakenByTheBlocksInOrder : Obligations.SampleIsTakenByTheBlocksInOrder := by
  refine ⟨fun bytes s => ⟨fun hwrong => ?_, fun hstart => if_neg hstart⟩, rfl, fun r => ?_,
    ⟨fun s => rfl, fun record rest => congrArg Instr.sampleRecord (linkBytes_record record rest)⟩,
    fun x unused s => ⟨sampleOfBytes_record x unused, sample_bytes_eq x, ?_⟩⟩
  · refine exec_sampleRecord_of_none ?_ s
    by_cases hlen : bytes.length = 12
    · exact sampleOfBytes_of_check hlen (hwrong.resolve_left (not_not.2 hlen))
    · exact sampleOfBytes_of_length hlen
  · rw [← looper_code_eq]
    rfl
  · intro v w sent
    have hw : sampled x s = w := rfl
    rw [exec_sampleRecord]
    refine ⟨fun c hc hstate => ?_, fun hstate hrest => ?_⟩
    · rw [blocksTake_of_taking ((congrArg Station.config (sampled_station x s)).trans hc) (by rwa [sampled_station]), hw]
      rfl
    · obtain ⟨hlooper, htrim⟩ := sampled_looper_trim x s
      rw [blocksTake_of_resting, hw]
      · rfl
      · rw [sampled_station]
        rcases hstate with h | h | h <;> simp [h]
      · rwa [sampled_station, hlooper, htrim]

end Sys2Proof.Proofs
